-- ==== Sys2Proof/Word.lean ====
section
/-! DEFINITION. The word sizes of the SH16 (00_scope.md, Conventions) and the index types of its tables. -/

namespace Sys2Proof

/-- A word of a port's window: 16 bits. -/
abbrev Word := BitVec 16

/-- A byte on the expansion bus (R112). -/
abbrev Byte := BitVec 8

/-- A tick stamp: a 32-bit value of the tick counter (R144, R145). -/
abbrev Stamp := BitVec 32

/-- A channel number, 0 to 15 (R1). -/
abbrev Channel := Fin 16

/-- A slot number of one port's Request Table, 0 to 11 (R22). -/
abbrev SlotNo := Fin 12

/-- A row number of the Settle Table, 0 to 3 (R132). -/
abbrev RowNo := Fin 4

end Sys2Proof
end

