-- ==== Sys2Proof/Config.lean ====
section
/-! DEFINITION. The constants of the part. The spec leaves no result open, so there is no free value here (log 17). -/

namespace Sys2Proof.Config

/-- Crystal cycles from the reset to RUNNING (R143). -/
def startupCycles : Nat := 256

/-- Periods of the FAST span clock in one tick (R97). -/
def fastPeriodsPerTick : Nat := 128

/-- Periods of the FAST span clock in one period of the SLOW one, which is the crystal's own (R97). -/
def fastPeriodsPerSlow : Nat := 4

/-- The hold limit is placed this many ticks after a release of XCL (R116). -/
def holdLimitTicks : Stamp := 9

/-- The bus wait limit is placed this many ticks after the wait begins (R119). -/
def busWaitTicks : Stamp := 65

/-- Ticks from a busy answer to the next read due (R138). -/
def pollTicks : Stamp := 4

/-- The attempts one transaction may take (R118, R126). -/
def maxAttempts : Nat := 4

/-- Room in the In-Flight Set for conversions of the local engine (R41, R48). -/
def maxLocalInFlight : Nat := 2

/-- Room in the In-Flight Set for conversions of the remote engine (R41, R49). -/
def maxRemoteInFlight : Nat := 4

/-- The shortest span count of a reference phase that is timed well enough (R100). -/
def minSpanCount : Nat := 16

/-- The identity word: part code 61h and revision 1 (11.3, Identity record). -/
def identity : Word := 0x6101

end Sys2Proof.Config
end

