-- ==== Sys2Proof/Syntax.lean ====
section
/-! DEFINITION. The commands of the SH16: one constructor of `Instr` per row of spec/opcode_table.json.
An operand is whatever the row's rule needs to know of the outside: which port, the word on PxD, the level found
on a line, the edges of the oscillation and of the span clock that came before the event. -/

namespace Sys2Proof

/-- The two host ports, and with them the two masters (00_scope.md, Masters and ports). -/
inductive Port where
  | a
  | b
  deriving DecidableEq, Repr

/-- A sampled logic level of a pin or bus line. -/
inductive Level where
  | low
  | high
  deriving DecidableEq, Repr

/-- The access type of a cycle, as PxSEL codes it: 00, 01, 10 and 11 in this order (R149). -/
inductive Access where
  | control
  | dataAdvance
  | pointer
  | data
  deriving DecidableEq, Repr

/-- A DATA cycle of a port: `selected` is whether PxCS_N is low at the fall of the strobe, and `advance`
whether the access type is DATA with advance (R149). -/
structure DataCycle where
  port : Port
  selected : Bool
  advance : Bool
  deriving DecidableEq, Repr

/-- What the counters of the Oscillator Converter count: a half cycle of the running oscillator, which the analog outside
makes, and a period of the FAST span clock, every fourth of which ends a period of the SLOW one too (R95 to R97; log 6). -/
inductive CountEdge where
  | halfCycle
  | fastPeriod
  deriving DecidableEq, Repr

/-- What a tick finds (R97, R114, R144): whether both bus lines are high, and the edges since those last counted. -/
structure TickInput where
  linesHigh : Bool
  edges : List CountEdge
  deriving DecidableEq, Repr

/-- What began a device reset (R115): power-on, which samples XRATE in the same event, or the fall of RESET_N,
which samples it when the pin rises again. -/
inductive ResetCause where
  | powerOn (xrate : Level)
  | resetPin
  deriving DecidableEq, Repr

/-- What the controller found when it lost arbitration: the rows of the table of R126, with its last row and its
RESTART row split by condition. -/
inductive LossCause where
  /-- START: XCL low before the controller pulled XDA low (R120). -/
  | startXclLow
  /-- SEND_BYTE: XDA low while XCL is high, in a bit sent as 1 (R121). -/
  | sendXdaLow
  /-- ACK: XDA low while XCL is high, in the controller's high acknowledge (R122). -/
  | ackXdaLow
  /-- RESTART: XDA low when XCL rises (R124). -/
  | restartXdaLow
  /-- RESTART: XCL low before the controller pulled XDA low (R124). -/
  | restartXclLow
  /-- STOP: XDA still low one half-bit period after its release (R125). -/
  | stopXdaLow
  /-- A START condition that the controller did not make (R126, last row). -/
  | foreignStart
  /-- A STOP condition that the controller did not make (R126, last row). -/
  | foreignStop
  deriving DecidableEq, Repr

/-- The commands: the rows of spec/opcode_table.json in the table's order. -/
inductive Instr where
  | convert (c : DataCycle)
  | watch (c : DataCycle)
  | cancel (c : DataCycle)
  | claim (c : DataCycle)
  | release (c : DataCycle)
  | configure (c : DataCycle)
  | quiet (c : DataCycle)
  | commitBadKind (c : DataCycle) (word : Word)
  | acknowledgement (c : DataCycle) (version : Word)
  | controlWrite (p : Port) (selected : Bool) (word : Word)
  | resetAction (p : Port) (selected : Bool) (word : Word)
  | pointerWrite (p : Port) (selected : Bool) (word : Word)
  | stagingWrite (c : DataCycle) (word : Word)
  | snapshot (p : Port) (selected : Bool) (access : Access)
  | eventRecordRead (c : DataCycle)
  | earlyStrobe (p : Port) (selected : Bool) (access : Access) (isRead : Bool)
  | portReset (p : Port)
  | portResetRelease (p : Port)
  | deviceReset (cause : ResetCause)
  | enterRunning
  | tick (input : TickInput)
  | claimExpiry (channel : Channel)
  | dueExpiry (p : Port) (slot : SlotNo)
  | quietWindowExpiry (p : Port)
  | readExpiry (row : RowNo)
  | holdLimitExpiry
  | busWaitLimitExpiry
  | localTake
  | referencePhaseEnd (edges : List CountEdge)
  | spanOverflow
  | sensingPhaseEnd (edges : List CountEdge)
  | cycleCounterOverflow
  | divisionEnd
  | completion (channel : Channel)
  | trigger (xcl : Level)
  | read (xcl : Level)
  | attemptStart (xcl : Level)
  | stop
  | lossOfArbitration (cause : LossCause)
  | backoffEnd (xcl : Level)
  | startCondition
  | stopCondition
  | resetNRelease (xrate : Level)
  | halfBitPeriodEnd
  | xclSampledHigh (xda : Level)
  | xclPulledLowByAnotherDevice
  | busLineLow
  deriving DecidableEq, Repr

end Sys2Proof
end

