-- ==== Sys2Proof/WellFormed.lean ====
section
/-! DEFINITION. Which commands are well formed: what an operand's type does not already say about its row.
Every constructor is named, so that a new one cannot slip past. -/

namespace Sys2Proof

/-- The kind codes 1 to 7 name a request kind (R20). -/
def namesKind (word : Word) : Bool := 1 ≤ word.toNat && word.toNat ≤ 7

/-- The reset action is bit 15 of the port control word (R155, R163). -/
def hasResetAction (word : Word) : Bool := word.getLsbD 15

/-- A command is well formed when its operands are those of its own row: COMMIT_BAD_KIND carries a word that names
no kind (R20), RESET_ACTION a control word with the reset action and CONTROL_WRITE one without (R155). The rows
whose operands have no such condition are well formed as they stand. -/
def Instr.wf : Instr → Bool
  | .convert _ => true
  | .watch _ => true
  | .cancel _ => true
  | .claim _ => true
  | .release _ => true
  | .configure _ => true
  | .quiet _ => true
  | .commitBadKind _ word => !namesKind word
  | .acknowledgement _ _ => true
  | .controlWrite _ _ word => !hasResetAction word
  | .resetAction _ _ word => hasResetAction word
  | .pointerWrite _ _ _ => true
  | .stagingWrite _ _ => true
  | .snapshot _ _ _ => true
  | .eventRecordRead _ => true
  | .earlyStrobe _ _ _ _ => true
  | .portReset _ => true
  | .portResetRelease _ => true
  | .deviceReset _ => true
  | .enterRunning => true
  | .tick _ => true
  | .claimExpiry _ => true
  | .dueExpiry _ _ => true
  | .quietWindowExpiry _ => true
  | .readExpiry _ => true
  | .holdLimitExpiry => true
  | .busWaitLimitExpiry => true
  | .localTake => true
  | .referencePhaseEnd _ => true
  | .spanOverflow => true
  | .sensingPhaseEnd _ => true
  | .cycleCounterOverflow => true
  | .divisionEnd => true
  | .completion _ => true
  | .trigger _ => true
  | .read _ => true
  | .attemptStart _ => true
  | .stop => true
  | .lossOfArbitration _ => true
  | .backoffEnd _ => true
  | .startCondition => true
  | .stopCondition => true
  | .resetNRelease _ => true
  | .halfBitPeriodEnd => true
  | .xclSampledHigh _ => true
  | .xclPulledLowByAnotherDevice => true
  | .busLineLow => true

end Sys2Proof
end

