-- ==== Sys2Proof/Decode.lean ====
section
/-! DEFINITION. The decoder over the table's bits. No row of spec/opcode_table.json gives bits (its `fields` are
all empty), so no word spells a command. -/

namespace Sys2Proof

/-- The command a word of the table's bits spells: none, since the table gives no row any bits. -/
def decodeTableWord (_nbits _w : Nat) : Option Instr := none

end Sys2Proof
end

