-- ==== Sys2Proof/Machine/State.lean ====
section
/-! DEFINITION. The state of the SH16 as plain data, block by block, with the value of every field after reset
(INVENTORY.md, State). -/

namespace Sys2Proof.Machine

/-- The machine never stops with a fault: the spec describes none (log 1). -/
inductive Fault where
  deriving DecidableEq, Repr

/-- The reasons a command has no meaning. -/
inductive Refusal where
  /-- Raised by `exec` alone, for a row that has no meaning yet; safe. No arm raises it now. -/
  | notModelled (mnemonic : String)
  deriving DecidableEq, Repr

/-! ## Timebase (09_the_timebase.md) -/

/-- The start state (R143). -/
inductive StartState where
  | starting
  | running
  deriving DecidableEq, Repr

/-- The items that may hold a deadline: the rows of the table of 9.4 (R146). -/
inductive DeadlineItem where
  | watchDue (p : Port) (slot : SlotNo)
  | claim (channel : Channel)
  | quietEnd (p : Port)
  | readDue (row : RowNo)
  | holdLimit
  | busWait
  deriving DecidableEq, Repr

/-- A deadline held by the Timebase (R146). -/
structure Deadline where
  item : DeadlineItem
  stamp : Stamp
  deriving DecidableEq, Repr

/-- The Timebase (R143, R144, R146). `subTick` counts the periods of the FAST span clock that have ended since the last
tick, 0 to 128 (R97; log 5). `delivered` are the expiries that have fallen due at the present tick and
that their owners have not yet taken, in the order of delivery (log 4). -/
structure Timebase where
  startState : StartState
  tick : Stamp
  crystalCycles : Nat
  subTick : BitVec 8
  deadlines : List Deadline
  delivered : List DeadlineItem
  deriving DecidableEq, Repr

/-! ## Channel Table (01_channels_and_configuration_claims.md) -/

/-- The clock of the two phases (R1). -/
inductive SpanClock where
  | slow
  | fast
  deriving DecidableEq, Repr

/-- The fields of a record's own kind (R1). -/
inductive KindFields where
  | localKind (sensorInput : Fin 8) (presetN : Word) (spanClock : SpanClock)
  | remoteKind (busAddress : BitVec 7) (settle : Byte) (pollLimit : BitVec 4)
  deriving DecidableEq, Repr

/-- One channel record (R1). -/
structure ChannelRecord where
  enable : Bool
  round : Bool
  generation : Byte
  fields : KindFields
  holder : Option Port
  expiry : Stamp
  deriving DecidableEq, Repr

/-! ## Result Table (04_results_and_response_queues.md) -/

/-- The outcome statuses, in the order of their codes (R65, 11.6). -/
inductive Status where
  | ok
  | overRange
  | noSignal
  | spanOverflow
  | spanShort
  | remoteAbsent
  | remoteRefused
  | remoteTimeout
  | remoteFault
  | remoteDataInvalid
  | busLost
  | busHoldTimeout
  | busStuck
  deriving DecidableEq, Repr

/-- The fields of a result that a delivery hands over (R65, R72). -/
structure ResultPart where
  value : Word
  status : Status
  sequence : Word
  startStamp : Stamp
  endStamp : Stamp
  generation : Byte
  restarts : BitVec 4
  deriving DecidableEq, Repr

/-- One result entry (R65): `valid` is validity SET. -/
structure ResultEntry where
  valid : Bool
  reserved : Bool
  part : ResultPart
  deriving DecidableEq, Repr

/-! ## Scheduler (03_the_conversion_schedule.md) -/

/-- A slot waiting for a conversion, named by port and number (R40). -/
structure Waiter where
  port : Port
  slot : SlotNo
  deriving DecidableEq, Repr

/-- A pending entry (R40). The waiter set is kept as a list in rising order without repeats (log 16). -/
structure PendingEntry where
  channel : Channel
  waiters : List Waiter
  restarts : BitVec 4
  deriving DecidableEq, Repr

/-- The two engines, and with them the two origins of a job (R41, R84). -/
inductive Engine where
  | localEngine
  | remoteEngine
  deriving DecidableEq, Repr

/-- The outcome handed to the Scheduler (R41, R52). -/
structure ConversionOutcome where
  value : Word
  status : Status
  deriving DecidableEq, Repr

/-- A conversion record (R41). -/
structure ConversionRecord where
  channel : Channel
  engine : Engine
  waiters : List Waiter
  startStamp : Stamp
  generation : Byte
  restarts : BitVec 4
  outcome : Option ConversionOutcome
  deriving DecidableEq, Repr

/-! ## Ports (02_requests_and_slots.md, 04_results_and_response_queues.md, 10_host_ports.md) -/

/-- The staging words 010h to 018h in address order (R18). -/
structure Staging where
  command : Word
  channel : Word
  tag : Word
  paramA : Word
  paramB : Word
  settings : Word
  config1 : Word
  config2 : Word
  config3 : Word
  deriving DecidableEq, Repr

/-- The submit codes, in the order of their numbers (11.6). -/
inductive SubmitCode where
  | accepted
  | notStarted
  | badKind
  | badChannel
  | channelOff
  | badParam
  | noSlot
  | badSlot
  | heldByPeer
  | notHolder
  | notHeld
  | channelBusy
  | configRange
  | addressInUse
  | none
  deriving DecidableEq, Repr

/-- The states of a slot, in the order of their codes (R22, R23). -/
inductive SlotState where
  | free
  | waiting
  | dormant
  | finished
  deriving DecidableEq, Repr

/-- The kinds of request that live in a slot (R22). -/
inductive RequestKind where
  | convert
  | watch
  deriving DecidableEq, Repr

/-- One slot of a Request Table (R22). -/
structure Slot where
  state : SlotState
  kind : RequestKind
  channel : Channel
  tag : Word
  maxAge : Word
  period : Word
  nextDue : Stamp
  joinStamp : Stamp
  noticeQueued : Bool
  missed : Byte
  deriving DecidableEq, Repr

/-- What a response record reports (R72). -/
inductive Disposition where
  | result
  | cancelled
  | channelOff
  deriving DecidableEq, Repr

/-- Where a carried result came from (R72). -/
inductive Source where
  | none
  | conversion
  | table
  deriving DecidableEq, Repr

/-- One response record (R72). -/
structure ResponseRecord where
  disposition : Disposition
  final : Bool
  source : Source
  kind : RequestKind
  slot : SlotNo
  channel : Channel
  tag : Word
  version : Word
  coalesced : Word
  missed : Byte
  part : Option ResultPart
  deriving DecidableEq, Repr

/-- The names of the six event flags (R157). -/
inductive Flag where
  | tap
  | claimLapsed
  | earlyStrobe
  | ackStale
  | busFault
  | quietLapsed
  deriving DecidableEq, Repr

/-- The six event flags of a port (R157). -/
structure EventFlags where
  tap : Bool
  claimLapsed : Bool
  earlyStrobe : Bool
  ackStale : Bool
  busFault : Bool
  quietLapsed : Bool
  deriving DecidableEq, Repr

/-- The records a window is divided into (R153). -/
inductive RecordName where
  | portStatus
  | event
  | tick
  | identity
  | responseHead
  | result (channel : Channel)
  | channel (channel : Channel)
  | pendingOrder
  | slot (slot : SlotNo)
  deriving DecidableEq, Repr

/-- A snapshot in the Read Buffer, with the name of the record it came from (R153). -/
structure Snapshot where
  record : RecordName
  words : List Word
  deriving DecidableEq, Repr

/-- Everything one port holds: its own registers, its Request Table and Response Queue, and the quiet window the
Scheduler holds for it (R58). `rstN` is the level of PxRST_N (R159), `control` bits 12 to 0 of the port control word
(R163), and `dataOut` the word the port's last cycle drove on PxD (log 3). -/
structure PortState where
  rstN : Level
  readPtr : BitVec 9
  writePtr : BitVec 9
  control : BitVec 13
  flags : EventFlags
  buffer : Option Snapshot
  staging : Staging
  submitCount : Byte
  submitCode : SubmitCode
  submitSlot : Option SlotNo
  slots : Vector Slot 12
  queue : List ResponseRecord
  version : Word
  quietEnd : Option Stamp
  dataOut : Option Word
  deriving DecidableEq, Repr

/-! ## Ratio Unit (05_the_ratio_unit.md) -/

/-- A division job (R84). -/
structure Job where
  channel : Channel
  m : Word
  n : Word
  round : Bool
  origin : Engine
  deriving DecidableEq, Repr

/-- The Ratio Unit (R85, R86, R87): `marker` is the last-served marker. -/
structure RatioUnit where
  localInput : Option Job
  remoteInput : Option Job
  divider : Option Job
  marker : Engine
  deriving DecidableEq, Repr

/-! ## Oscillator Converter (06_the_oscillator_converter.md) -/

/-- The current conversion: what the take read (R98). -/
structure Current where
  channel : Channel
  sensorInput : Fin 8
  presetN : Word
  spanClock : SpanClock
  round : Bool
  deriving DecidableEq, Repr

/-- The five states of the converter with what each holds (R98). -/
inductive ConverterState where
  | idle
  | held
  | ref (cur : Current)
  | sense (cur : Current)
  | ratioWait (cur : Current) (job : Job)
  deriving DecidableEq, Repr

/-- The Oscillator Converter (R97, R98). `wave` is the level that the running oscillation is at, low whenever an
oscillator starts or stops (R96). -/
structure Converter where
  state : ConverterState
  cycleCounter : Word
  spanCounter : Word
  wave : Level
  deriving DecidableEq, Repr

/-! ## Remote Engine (08_remote_sensor_transactions.md) -/

/-- The states of a Settle Table row (R132). -/
inductive RowState where
  | free
  | triggering
  | settling
  | readDue
  | reading
  | ratioWait
  deriving DecidableEq, Repr

/-- One row of the Settle Table (R132). -/
structure Row where
  state : RowState
  channel : Channel
  busAddress : BitVec 7
  settle : Byte
  pollLimit : BitVec 4
  round : Bool
  readDue : Stamp
  polls : BitVec 4
  m : Word
  n : Word
  deriving DecidableEq, Repr

/-- The Remote Engine: its rows and its two orderings, head first (R132). -/
structure RemoteEngine where
  rows : Vector Row 4
  readOrder : List RowNo
  waitOrder : List RowNo
  deriving DecidableEq, Repr

/-! ## Expansion Bus Controller (07_the_expansion_bus_controller.md) -/

/-- The bus state (R113). -/
inductive BusState where
  | free
  | busy
  deriving DecidableEq, Repr

/-- The bus rate sampled from XRATE (R115). -/
inductive BusRate where
  | standard
  | fast
  deriving DecidableEq, Repr

/-- The bit timer at the boundary of two commands: stopped, suspended until XCL is sampled high, or loaded with a
reload value and running (R115, R116). -/
inductive BitTimer where
  | stopped
  | suspended
  | running (reload : BitVec 6)
  deriving DecidableEq, Repr

/-- A transaction (R118). -/
structure Transaction where
  target : BitVec 7
  writePart : List Byte
  readCount : Nat
  deriving DecidableEq, Repr

/-- The bytes an attempt sends: the first address byte, the write part, and the address byte after RESTART (R118). -/
inductive SentByte where
  | addressWrite
  | writeByte (index : Nat)
  | addressRead
  deriving DecidableEq, Repr

/-- Where a clocked bit stands: XCL pulled low; XCL released and not yet sampled high (the clock hold); XCL high
(R115, R116). -/
inductive Half where
  | low
  | rising
  | high
  deriving DecidableEq, Repr

/-- What the target's acknowledges have said of the attempt (R122, R125). -/
inductive AttemptResult where
  | done
  | addressNack
  | dataNack
  deriving DecidableEq, Repr

/-- RESTART: the low half-bit, the release of XCL, the half-bit with XCL high, and the half-bit after XDA has been
pulled low (R124). -/
inductive RestartStep where
  | clocked (half : Half)
  | pulled
  deriving DecidableEq, Repr

/-- STOP: the two halves in which XDA is held low, then XDA released, then one half-bit period past the release
(R125). -/
inductive StopStep where
  | clocked (half : Half)
  | released
  | overdue
  deriving DecidableEq, Repr

/-- The nine states of the controller with its place in each (7.6). ACK has two directions (R122): `ackIn` is the
target's acknowledge of a byte sent, whose level is known from the rise of XCL, `ackOut` the controller's own. -/
inductive BusControl where
  | idle
  | waitFree
  | start
  | sendByte (byte : SentByte) (bit : Fin 8) (half : Half)
  | ackIn (byte : SentByte) (half : Half) (level : Level)
  | recvByte (bit : Fin 8) (half : Half) (bits : Byte)
  | ackOut (half : Half)
  | restart (step : RestartStep)
  | stop (step : StopStep) (result : AttemptResult)
  | backoff (second : Bool)
  deriving DecidableEq, Repr

/-- The Expansion Bus Controller. `linesHigh` is whether both lines have been high without a break since the
previous tick while the idle check is in force (R114). -/
structure BusController where
  control : BusControl
  busState : BusState
  idleCheck : Bool
  linesHigh : Bool
  rate : BusRate
  timer : BitTimer
  attempt : Fin 5
  transaction : Option Transaction
  received : List Byte
  deriving DecidableEq, Repr

/-- The whole part, and the queue of the commands that wait. -/
structure State where
  pending : List Instr
  resetN : Level
  timebase : Timebase
  channels : Vector ChannelRecord 16
  results : Vector ResultEntry 16
  pendingList : List PendingEntry
  inFlight : List ConversionRecord
  portA : PortState
  portB : PortState
  ratio : RatioUnit
  converter : Converter
  remote : RemoteEngine
  bus : BusController
  deriving DecidableEq, Repr

/-! ## Reset values -/

/-- R143, R148. -/
def Timebase.reset : Timebase :=
  { startState := .starting, tick := 0, crystalCycles := 0, subTick := 0, deadlines := [], delivered := [] }

/-- R2: the record of a channel after a device reset. -/
def ChannelRecord.reset (c : Channel) : ChannelRecord :=
  { enable := false, round := false, generation := 0
    fields := if c.val < 8 then .localKind (Fin.ofNat 8 c.val) 1024 .slow else .remoteKind 0 16 3
    holder := none, expiry := 0 }

/-- R66. -/
def ResultPart.reset : ResultPart :=
  { value := 0, status := .ok, sequence := 0, startStamp := 0, endStamp := 0, generation := 0, restarts := 0 }

/-- R66. -/
def ResultEntry.reset : ResultEntry := { valid := false, reserved := false, part := .reset }

/-- R18. -/
def Staging.reset : Staging :=
  { command := 0, channel := 0, tag := 0, paramA := 0, paramB := 0, settings := 0, config1 := 0, config2 := 0, config3 := 0 }

/-- The values of a FREE slot (R22). -/
def Slot.free : Slot :=
  { state := .free, kind := .convert, channel := 0, tag := 0, maxAge := 0, period := 0, nextDue := 0, joinStamp := 0
    noticeQueued := false, missed := 0 }

/-- R157: all six flags clear. -/
def EventFlags.clear : EventFlags :=
  { tap := false, claimLapsed := false, earlyStrobe := false, ackStale := false, busFault := false, quietLapsed := false }

/-- A port's reset values (R160, R37, R83), with its reset pin at the level given. -/
def PortState.reset (rstN : Level) : PortState :=
  { rstN := rstN, readPtr := 0, writePtr := 0, control := 0, flags := .clear, buffer := none, staging := .reset
    submitCount := 0, submitCode := .none, submitSlot := none, slots := Vector.replicate 12 .free, queue := []
    version := 0, quietEnd := none, dataOut := none }

/-- R94. -/
def RatioUnit.reset : RatioUnit :=
  { localInput := none, remoteInput := none, divider := none, marker := .remoteEngine }

/-- R98, R111. -/
def Converter.reset : Converter := { state := .idle, cycleCounter := 0, spanCounter := 0, wave := .low }

/-- The values of a FREE row: channel 8, with the settings of channel 8 at device reset (R132). -/
def Row.free : Row :=
  { state := .free, channel := 8, busAddress := 0, settle := 16, pollLimit := 3, round := false, readDue := 0, polls := 0
    m := 0, n := 0 }

/-- R142. -/
def RemoteEngine.reset : RemoteEngine := { rows := Vector.replicate 4 .free, readOrder := [], waitOrder := [] }

/-- R130, with the bus rate given. -/
def BusController.reset (rate : BusRate) : BusController :=
  { control := .idle, busState := .busy, idleCheck := true, linesHigh := false, rate := rate, timer := .stopped
    attempt := 0, transaction := none, received := [] }

/-- Every block at its reset values: what a device reset leaves (R42, R160), for the given levels of RESET_N and of
the two port reset pins and the given bus rate. The queue of commands is no part of the block. -/
def State.deviceReset (pending : List Instr) (resetN rstA rstB : Level) (rate : BusRate) : State :=
  { pending := pending, resetN := resetN, timebase := .reset, channels := Vector.ofFn .reset
    results := Vector.replicate 16 .reset, pendingList := [], inFlight := [], portA := .reset rstA, portB := .reset rstB
    ratio := .reset, converter := .reset, remote := .reset, bus := .reset rate }

/-- The machine right after a power-on reset, with an empty queue. The three reset pins read high and the XRATE
strap low: DESIGN CHOICE (log 8, log 9). -/
def State.reset : State := .deviceReset [] .high .high .high .standard

end Sys2Proof.Machine
end

