-- ==== Sys2Proof/Machine/Operands.lean ====
section
/-! DEFINITION. How words carry operands: whole-word range checks (R162), the fields of the staging words and of the
port control word (R162, R163), the window map (11.1), the code tables (11.6), and counts that saturate. -/

namespace Sys2Proof.Machine

/-! ## Numbers -/

/-- A count that stays at its greatest value once it has reached it (R29, R40, R77). -/
def satInc {w : Nat} (x : BitVec w) : BitVec w := if x = BitVec.allOnes w then x else x + 1

/-- The bits of a field's value placed from bit `lo` up (R161). -/
def field (lo value : Nat) : Word := BitVec.ofNat 16 (value * 2 ^ lo)

/-- A one-bit field at bit `lo`. -/
def flagBit (lo : Nat) (b : Bool) : Word := if b then field lo 1 else 0

/-- The low half of a stamp, at the lower of its two addresses (R161). -/
def lowWord (t : Stamp) : Word := t.setWidth 16

/-- The high half of a stamp (R161). -/
def highWord (t : Stamp) : Word := (t >>> 16).setWidth 16

/-- Stamp `x` is before stamp `y` in the modular order (R145). -/
def stampBefore (x y : Stamp) : Bool := 1 ≤ (y - x).toNat && (y - x).toNat ≤ 2 ^ 31 - 1

/-- The age of a result at a tick, in the plain order of numbers (R70, R145). -/
def age (now endStamp : Stamp) : Nat := (now - endStamp).toNat

/-! ## Range checks on whole words (R162) -/

/-- The whole word lies in the range, ends included. -/
def inRange (w : Word) (lo hi : Nat) : Bool := lo ≤ w.toNat && w.toNat ≤ hi

/-- The channel a whole word names: 0 to 15 or none. -/
def channelOf (w : Word) : Option Channel := if h : w.toNat < 16 then some ⟨w.toNat, h⟩ else none

/-- The slot a whole word names: 0 to 11 or none. -/
def slotOf (w : Word) : Option SlotNo := if h : w.toNat < 12 then some ⟨w.toNat, h⟩ else none

/-- Records 0 to 7 are of kind LOCAL, 8 to 15 of kind REMOTE (R1). -/
def isLocal (c : Channel) : Bool := decide (c.val < 8)

/-- Bit 0 of word 015h (R162). -/
def settingsEnable (w : Word) : Bool := w.getLsbD 0

/-- Bit 1 of word 015h (R162). -/
def settingsRound (w : Word) : Bool := w.getLsbD 1

/-- Bit 2 of word 015h (R162). -/
def settingsSpanClock (w : Word) : SpanClock := if w.getLsbD 2 then .fast else .slow

/-- The fields of the channel's kind as the staging words ask for them, or none where one is out of its range (R12).
Words of the other kind are not looked at. -/
def requestedFields (c : Channel) (st : Staging) : Option KindFields :=
  if isLocal c then
    if inRange st.config1 16 65535 && inRange st.config2 0 7 then
      some (.localKind (Fin.ofNat 8 st.config2.toNat) st.config1 (settingsSpanClock st.settings))
    else none
  else
    if inRange st.config1 0x08 0x77 && inRange st.config2 1 255 && inRange st.config3 0 15 then
      some (.remoteKind (st.config1.setWidth 7) (st.config2.setWidth 8) (st.config3.setWidth 4))
    else none

/-! ## The port control word (11.5) -/

/-- A tap select code that names no tap is stored as off (R155, R163). -/
def normalTap (code : BitVec 4) : BitVec 4 := if 4 ≤ code.toNat && code.toNat ≤ 12 then code else 0

/-- What a CONTROL write without the reset action stores: bits 12 to 0, the tap select normalised (R163). -/
def storedControl (w : Word) : BitVec 13 := normalTap (w.extractLsb' 9 4) ++ w.extractLsb' 0 9

/-- Bit 15 of the written word is the reset action (R163). -/
def controlResets (w : Word) : Bool := w.getLsbD 15

/-- Pointer mode SPLIT (bit 0). -/
def pointerSplit (control : BitVec 13) : Bool := control.getLsbD 0

/-- Pointer select WRITE (bit 1). -/
def pointerSelectsWrite (control : BitVec 13) : Bool := control.getLsbD 1

/-- The position of a flag in the event record (11.3). -/
def Flag.bit : Flag → Nat
  | .tap => 0
  | .claimLapsed => 1
  | .earlyStrobe => 2
  | .ackStale => 3
  | .busFault => 4
  | .quietLapsed => 5

/-- The enable of a flag: bits 2 to 7, in the order of the event record. -/
def flagEnabled (control : BitVec 13) (f : Flag) : Bool := control.getLsbD (2 + f.bit)

/-- QUEUE enable (bit 8). -/
def queueEnabled (control : BitVec 13) : Bool := control.getLsbD 8

/-- Tap select (bits 12 to 9): 0 is off. -/
def tapSelect (control : BitVec 13) : Nat := (control.extractLsb' 9 4).toNat

/-- The tick is a tap tick of a port with this tap select (R147). -/
def tapFires (k : Nat) (tick : Stamp) : Bool := decide (k ≠ 0) && decide (tick.toNat % 2 ^ k = 0)

/-! ## Staging words and the window map (11.1) -/

/-- Staging word `i`, at 010h + i (R18). -/
def Staging.get (st : Staging) : Nat → Word
  | 0 => st.command
  | 1 => st.channel
  | 2 => st.tag
  | 3 => st.paramA
  | 4 => st.paramB
  | 5 => st.settings
  | 6 => st.config1
  | 7 => st.config2
  | 8 => st.config3
  | _ => 0

/-- Store staging word `i` (R18). -/
def Staging.store (st : Staging) (i : Nat) (w : Word) : Staging :=
  match i with
  | 0 => { st with command := w }
  | 1 => { st with channel := w }
  | 2 => { st with tag := w }
  | 3 => { st with paramA := w }
  | 4 => { st with paramB := w }
  | 5 => { st with settings := w }
  | 6 => { st with config1 := w }
  | 7 => { st with config2 := w }
  | 8 => { st with config3 := w }
  | _ => st

/-- What stands at a window address: a word of a record, a staging word, the ack word, or nothing. -/
inductive WindowTarget where
  | record (name : RecordName) (offset : Nat)
  | staging (index : Nat)
  | ackWord
  | unused
  deriving DecidableEq, Repr

/-- The window map of 11.1 (R161). -/
def windowTarget (address : BitVec 9) : WindowTarget :=
  let n := address.toNat
  if n < 0x004 then .record .portStatus n
  else if n < 0x005 then .record .event 0
  else if n < 0x007 then .record .tick (n - 0x005)
  else if n < 0x008 then .record .identity 0
  else if n < 0x010 then .unused
  else if n < 0x019 then .staging (n - 0x010)
  else if n < 0x020 then .unused
  else if n < 0x02F then .record .responseHead (n - 0x020)
  else if n < 0x030 then .ackWord
  else if n < 0x040 then .unused
  else if n < 0x0C0 then .record (.result (Fin.ofNat 16 ((n - 0x040) / 8))) ((n - 0x040) % 8)
  else if n < 0x140 then .record (.channel (Fin.ofNat 16 ((n - 0x0C0) / 8))) ((n - 0x0C0) % 8)
  else if n < 0x150 then .record .pendingOrder (n - 0x140)
  else if n < 0x180 then .unused
  else if n < 0x1C8 then .record (.slot (Fin.ofNat 12 ((n - 0x180) / 6))) ((n - 0x180) % 6)
  else .unused

/-! ## Codes (11.6) -/

/-- Submit codes. -/
def SubmitCode.code : SubmitCode → Nat
  | .accepted => 0x00
  | .notStarted => 0x01
  | .badKind => 0x02
  | .badChannel => 0x03
  | .channelOff => 0x04
  | .badParam => 0x05
  | .noSlot => 0x06
  | .badSlot => 0x07
  | .heldByPeer => 0x08
  | .notHolder => 0x09
  | .notHeld => 0x0A
  | .channelBusy => 0x0B
  | .configRange => 0x0C
  | .addressInUse => 0x0D
  | .none => 0xFF

/-- Outcome statuses. -/
def Status.code : Status → Nat
  | .ok => 0
  | .overRange => 1
  | .noSignal => 2
  | .spanOverflow => 3
  | .spanShort => 4
  | .remoteAbsent => 5
  | .remoteRefused => 6
  | .remoteTimeout => 7
  | .remoteFault => 8
  | .remoteDataInvalid => 9
  | .busLost => 10
  | .busHoldTimeout => 11
  | .busStuck => 12

/-- The BUS_* statuses, which set BUS_FAULT (R52). -/
def Status.isBus : Status → Bool
  | .busLost => true
  | .busHoldTimeout => true
  | .busStuck => true
  | _ => false

/-- Slot states. -/
def SlotState.code : SlotState → Nat
  | .free => 0
  | .waiting => 1
  | .dormant => 2
  | .finished => 3

/-- Kinds in records: 0 CONVERT, 1 WATCH (11.4). -/
def RequestKind.code : RequestKind → Nat
  | .convert => 0
  | .watch => 1

/-- Dispositions; 0 is NONE, of the empty head only. -/
def Disposition.code : Disposition → Nat
  | .result => 1
  | .cancelled => 2
  | .channelOff => 3

/-- Sources. -/
def Source.code : Source → Nat
  | .none => 0
  | .conversion => 1
  | .table => 2

/-- The bit timer's reload value (R115). -/
def BusRate.reload : BusRate → BitVec 6
  | .standard => 42
  | .fast => 11

/-- The bus rate a level of XRATE selects (R115). -/
def rateOf : Level → BusRate
  | .low => .standard
  | .high => .fast

/-- A level as a bit: 1 for high. -/
def levelBit : Level → BitVec 1
  | .low => 0
  | .high => 1

end Sys2Proof.Machine
end

