-- ==== Sys2Proof/Machine/Ops.lean ====
section
/-! DEFINITION. The named operations every meaning is built from: access to each piece of state, deadlines (R146),
and waiter sets (R40). -/

namespace Sys2Proof.Machine

/-- What one command answers. -/
abbrev StepOutcome := Host.Outcome State Fault Refusal

/-- The present tick (09_the_timebase.md): the "now" of every event. -/
def State.now (s : State) : Stamp := s.timebase.tick

/-- No tick occurs, and no cycle of the crystal is counted, while the Timebase is STARTING or RESET_N is low (R143). -/
def State.ticks (s : State) : Bool := decide (s.timebase.startState = .running) && decide (s.resetN = .high)

/-! ## Ports -/

/-- The other port, the peer. -/
def peer : Port → Port
  | .a => .b
  | .b => .a

/-- A port's state. -/
def State.port (s : State) : Port → PortState
  | .a => s.portA
  | .b => s.portB

/-- The state with one port's state replaced. -/
def State.setPort (s : State) (p : Port) (x : PortState) : State :=
  match p with
  | .a => { s with portA := x }
  | .b => { s with portB := x }

/-- Port `p` is held in reset: its own pin or RESET_N is low (R159). -/
def State.held (s : State) (p : Port) : Bool := decide (s.resetN = .low) || decide ((s.port p).rstN = .low)

/-! ## Tables -/

/-- A channel record. -/
def State.channel (s : State) (c : Channel) : ChannelRecord := s.channels[c]

/-- The state with one channel record replaced. -/
def State.setChannel (s : State) (c : Channel) (x : ChannelRecord) : State := { s with channels := s.channels.set c x }

/-- A result entry. -/
def State.result (s : State) (c : Channel) : ResultEntry := s.results[c]

/-- The state with one result entry replaced. -/
def State.setResult (s : State) (c : Channel) (x : ResultEntry) : State := { s with results := s.results.set c x }

/-- The state with the mark of one result entry set or cleared (R67). -/
def State.setReserved (s : State) (c : Channel) (b : Bool) : State := s.setResult c { s.result c with reserved := b }

/-- A slot of a port's Request Table. -/
def State.slot (s : State) (p : Port) (i : SlotNo) : Slot := (s.port p).slots[i]

/-- The state with one slot replaced. -/
def State.setSlot (s : State) (p : Port) (i : SlotNo) (x : Slot) : State :=
  s.setPort p { s.port p with slots := (s.port p).slots.set i x }

/-- A row of the Settle Table. -/
def State.row (s : State) (r : RowNo) : Row := s.remote.rows[r]

/-- The state with one row replaced. -/
def State.setRow (s : State) (r : RowNo) (x : Row) : State :=
  { s with remote := { s.remote with rows := s.remote.rows.set r x } }

/-- The lowest-numbered FREE slot of a port (R24). -/
def State.freeSlot (s : State) (p : Port) : Option SlotNo :=
  (List.finRange 12).find? fun i => decide ((s.slot p i).state = .free)

/-! ## Deadlines (R146) -/

/-- Drop the deadlines of the items chosen, and their expiries that no owner has taken yet. -/
def Timebase.dropAll (t : Timebase) (chosen : DeadlineItem → Bool) : Timebase :=
  { t with deadlines := t.deadlines.filter (fun d => !chosen d.item), delivered := t.delivered.filter (fun i => !chosen i) }

/-- Drop one item's deadline: no expiry follows. -/
def State.dropDeadline (s : State) (item : DeadlineItem) : State :=
  { s with timebase := s.timebase.dropAll (fun i => decide (i = item)) }

/-- Place an item's deadline at a stamp; a deadline the item had is replaced. -/
def State.placeDeadline (s : State) (item : DeadlineItem) (stamp : Stamp) : State :=
  let t := s.timebase.dropAll (fun i => decide (i = item))
  { s with timebase := { t with deadlines := t.deadlines ++ [{ item := item, stamp := stamp }] } }

/-- The item's expiry has been delivered and waits for its owner to take it. -/
def State.expiryDue (s : State) (item : DeadlineItem) : Bool := decide (item ∈ s.timebase.delivered)

/-! ## Waiter sets (R40) -/

/-- The order the waiter sets are kept in: port A's slots first, each port's in rising order (log 16). -/
def Waiter.key (w : Waiter) : Nat :=
  match w.port with
  | .a => w.slot.val
  | .b => 12 + w.slot.val

/-- Add a waiter to a set. -/
def addWaiter (w : Waiter) : List Waiter → List Waiter
  | [] => [w]
  | x :: xs => if w = x then x :: xs else if w.key < x.key then w :: x :: xs else x :: addWaiter w xs

/-- The union of two waiter sets (R61). -/
def unionWaiters (xs ys : List Waiter) : List Waiter := xs.foldr addWaiter ys

/-- The waiters that remain when those chosen have left. -/
def dropWaiters (chosen : Waiter → Bool) (xs : List Waiter) : List Waiter := xs.filter (fun w => !chosen w)

/-- Every pair there can be, port by port in increasing order of slot number (R53). -/
def allWaiters : List Waiter :=
  (List.finRange 12).map (fun i => { port := .a, slot := i }) ++ (List.finRange 12).map (fun i => { port := .b, slot := i })

end Sys2Proof.Machine
end

