-- ==== Sys2Proof/Machine/Flags.lean ====
section
/-! DEFINITION. Event flags (R157), attention (R158), quiet activity (R58) and the other outputs that follow from the
state: the running oscillator and OSCMON (R95, R96), the bus lines as the controller drives them (7.6). -/

namespace Sys2Proof.Machine

/-! ## Event flags -/

/-- The flag named. -/
def EventFlags.get (f : EventFlags) : Flag → Bool
  | .tap => f.tap
  | .claimLapsed => f.claimLapsed
  | .earlyStrobe => f.earlyStrobe
  | .ackStale => f.ackStale
  | .busFault => f.busFault
  | .quietLapsed => f.quietLapsed

/-- Set the flag named; a flag already set stays set. -/
def EventFlags.raise (f : EventFlags) : Flag → EventFlags
  | .tap => { f with tap := true }
  | .claimLapsed => { f with claimLapsed := true }
  | .earlyStrobe => { f with earlyStrobe := true }
  | .ackStale => { f with ackStale := true }
  | .busFault => { f with busFault := true }
  | .quietLapsed => { f with quietLapsed := true }

/-- The event record's word (11.3). -/
def EventFlags.word (f : EventFlags) : Word :=
  flagBit 0 f.tap ||| flagBit 1 f.claimLapsed ||| flagBit 2 f.earlyStrobe ||| flagBit 3 f.ackStale
    ||| flagBit 4 f.busFault ||| flagBit 5 f.quietLapsed

/-- Clear exactly the flags that are set in a copy of the event record (R157). -/
def EventFlags.clearReturned (f : EventFlags) (copy : Word) : EventFlags :=
  { tap := f.tap && !copy.getLsbD 0, claimLapsed := f.claimLapsed && !copy.getLsbD 1
    earlyStrobe := f.earlyStrobe && !copy.getLsbD 2, ackStale := f.ackStale && !copy.getLsbD 3
    busFault := f.busFault && !copy.getLsbD 4, quietLapsed := f.quietLapsed && !copy.getLsbD 5 }

/-- Set a flag of a port. The flags of a port that is held in reset stay clear (R157, R159). -/
def State.raise (s : State) (p : Port) (f : Flag) : State :=
  if s.held p then s else s.setPort p { s.port p with flags := (s.port p).flags.raise f }

/-- PxATN_N is asserted (R158): an enabled flag is set, or the QUEUE enable is on and the queue is not empty, and
the port is not held in reset. -/
def State.attention (s : State) (p : Port) : Bool :=
  let x := s.port p
  !s.held p &&
    ([Flag.tap, .claimLapsed, .earlyStrobe, .ackStale, .busFault, .quietLapsed].any
        (fun f => x.flags.get f && flagEnabled x.control f)
      || (queueEnabled x.control && !x.queue.isEmpty))

/-! ## Quiet -/

/-- Quiet is active while at least one port holds a window (R58). -/
def State.quietActive (s : State) : Bool := s.portA.quietEnd.isSome || s.portB.quietEnd.isSome

/-! ## The converter's pins -/

/-- The oscillator that runs, of which at most one does (R95). -/
inductive Oscillator where
  | none
  | reference
  | sensor (pin : Fin 8)
  deriving DecidableEq, Repr

/-- The converter counts: it is in REF or SENSE. -/
def ConverterState.counting : ConverterState → Bool
  | .ref _ => true
  | .sense _ => true
  | .idle => false
  | .held => false
  | .ratioWait _ _ => false

/-- OSCMON follows the oscillation being counted and is low while no oscillator runs (R96). -/
def State.oscmon (s : State) : Level := if s.converter.state.counting then s.converter.wave else .low

/-- Which oscillator runs is set by the converter's state (R95). -/
def State.oscillator (s : State) : Oscillator :=
  match s.converter.state with
  | .ref _ => .reference
  | .sense cur => .sensor cur.sensorInput
  | .idle => .none
  | .held => .none
  | .ratioWait _ _ => .none

/-! ## The bus lines -/

/-- The transaction carried; outside one the value is never looked at. -/
def BusController.carried (b : BusController) : Transaction :=
  b.transaction.getD { target := 0, writePart := [], readCount := 0 }

/-- A byte the attempt sends: seven address bits and the direction bit, or a byte of the write part (R118). -/
def sentByte (t : Transaction) : SentByte → Byte
  | .addressWrite => t.target ++ (0 : BitVec 1)
  | .addressRead => t.target ++ (1 : BitVec 1)
  | .writeByte i => t.writePart.getD i 0

/-- The bit sent, most significant first (R121). -/
def sentBit (t : Transaction) (y : SentByte) (i : Fin 8) : Bool := (sentByte t y).getMsbD i.val

/-- The byte just received was the last of the read count, so the controller's acknowledge is high (R122). -/
def BusController.lastReceived (b : BusController) : Bool := decide (b.carried.readCount ≤ b.received.length)

/-- XCL is pulled low by the controller (7.6). -/
def BusController.xclPulled (b : BusController) : Bool :=
  match b.control with
  | .sendByte _ _ .low => true
  | .ackIn _ .low _ => true
  | .recvByte _ .low _ => true
  | .ackOut .low => true
  | .restart (.clocked .low) => true
  | .stop (.clocked .low) _ => true
  | _ => false

/-- XDA is pulled low by the controller (7.6). -/
def BusController.xdaPulled (b : BusController) : Bool :=
  match b.control with
  | .start => true
  | .sendByte y i _ => !sentBit b.carried y i
  | .ackOut _ => !b.lastReceived
  | .restart .pulled => true
  | .stop (.clocked _) _ => true
  | _ => false

end Sys2Proof.Machine
end

