-- ==== Sys2Proof/Machine/Queue.lean ====
section
/-! DEFINITION. The Response Queue of a port (R73, R74): append and change in place, deliveries (R28, R75 to R77),
records that end a request (R78), and acknowledgement (R79, R80). -/

namespace Sys2Proof.Machine

/-- Append a record at the tail. The version counter is increased first and gives the record its version (R74). -/
def State.appendRecord (s : State) (p : Port) (r : ResponseRecord) : State :=
  let v := (s.port p).version + 1
  s.setPort p { s.port p with version := v, queue := (s.port p).queue ++ [{ r with version := v }] }

/-- Change a slot's record in place; it takes a new version (R74). -/
def State.changeRecord (s : State) (p : Port) (i : SlotNo) (f : ResponseRecord → ResponseRecord) : State :=
  let v := (s.port p).version + 1
  s.setPort p { s.port p with
    version := v
    queue := (s.port p).queue.map (fun r => if r.slot = i then { f r with version := v } else r) }

/-- A record of a slot with coalesced 0 and no version yet: kind, slot, channel and tag are the slot's (R72). -/
def newRecord (x : Slot) (i : SlotNo) (disposition : Disposition) (final : Bool) (source : Source)
    (part : Option ResultPart) : ResponseRecord :=
  { disposition := disposition, final := final, source := source, kind := x.kind, slot := i, channel := x.channel
    tag := x.tag, version := 0, coalesced := 0, missed := x.missed, part := part }

/-- What a later result makes of a queued notice (R77). -/
def updatedNotice (x : Slot) (source : Source) (part : ResultPart) (r : ResponseRecord) : ResponseRecord :=
  { r with source := source, part := some part, missed := x.missed, coalesced := satInc r.coalesced }

/-- A delivery to one slot: a CONVERT is finished by its final record (R28, R75); a WATCH becomes DORMANT with a new
notice (R76) or with its queued notice changed in place (R77). -/
def State.deliver (s : State) (p : Port) (i : SlotNo) (source : Source) (part : ResultPart) : State :=
  let x := s.slot p i
  match x.kind with
  | .convert =>
    (s.setSlot p i { x with state := .finished }).appendRecord p
      { newRecord x i .result true source (some part) with missed := 0 }
  | .watch =>
    let s' := s.setSlot p i { x with state := .dormant, noticeQueued := true }
    if x.noticeQueued then s'.changeRecord p i (updatedNotice x source part)
    else s'.appendRecord p (newRecord x i .result false source (some part))

/-- What the end of a request makes of a queued notice (R78). -/
def endedNotice (x : Slot) (disposition : Disposition) (r : ResponseRecord) : ResponseRecord :=
  { r with final := true, disposition := disposition, missed := x.missed }

/-- End a slot's request with a disposition: its due deadline is dropped if it is a WATCH, it becomes FINISHED, and
its final record is produced (R33 steps 2 to 4, R34, R78). -/
def State.endSlot (s : State) (p : Port) (i : SlotNo) (disposition : Disposition) : State :=
  let x := s.slot p i
  let s1 := if x.kind = .watch then s.dropDeadline (.watchDue p i) else s
  let s2 := s1.setSlot p i { x with state := .finished }
  if x.noticeQueued then s2.changeRecord p i (endedNotice x disposition)
  else s2.appendRecord p (newRecord x i disposition true .none none)

/-- What the acknowledgement of a record makes of its slot: FREE after a final record (R35), notice queued no and
missed 0 after a notice (R31). -/
def acknowledgedSlot (r : ResponseRecord) (x : Slot) : Slot :=
  if r.final then Slot.free else { x with noticeQueued := false, missed := 0 }

/-- An acknowledgement: the head leaves when its version is the value written (R79); otherwise, and on an empty
queue, nothing is removed and ACK_STALE is set (R80). -/
def State.acknowledge (s : State) (p : Port) (version : Word) : State :=
  match (s.port p).queue with
  | [] => s.raise p .ackStale
  | r :: rest =>
    if r.version = version then
      let s1 := s.setPort p { s.port p with queue := rest }
      s1.setSlot p r.slot (acknowledgedSlot r (s.slot p r.slot))
    else s.raise p .ackStale

end Sys2Proof.Machine
end

