-- ==== Sys2Proof/Machine/Scheduler.lean ====
section
/-! DEFINITION. The Scheduler: the conversion request procedure (R43 to R46), takes (R48 to R51), hand-off and completion
(R52, R53, R68), removal of waiters (R55, R56), withdrawal (R57), quiet windows (R58 to R62). -/

namespace Sys2Proof.Machine

/-! ## The conversion request procedure -/

/-- The reuse test (R44): its five conditions in order. -/
def State.reusePasses (s : State) (c : Channel) (maxAge : Word) : Bool :=
  let e := s.result c
  decide (0 < maxAge.toNat) && e.valid && decide (e.part.status = .ok)
    && decide (e.part.generation = (s.channel c).generation)
    && decide (age s.now e.part.endStamp ≤ maxAge.toNat)

/-- Join the channel's pending entry (R45), or place a new one at the tail (R46). -/
def joinOrPlace (c : Channel) (w : Waiter) (l : List PendingEntry) : List PendingEntry :=
  if l.any (fun e => decide (e.channel = c)) then
    l.map (fun e => if e.channel = c then { e with waiters := addWaiter w e.waiters } else e)
  else l ++ [{ channel := c, waiters := [w], restarts := 0 }]

/-- The conversion request procedure for a slot (R43), with what its callers do to the slot (R25, R27, R29): served
from the table, or WAITING with the join stamp set to now. -/
def State.requestConversion (s : State) (p : Port) (i : SlotNo) : State :=
  let x := s.slot p i
  if s.reusePasses x.channel x.maxAge then s.deliver p i .table (s.result x.channel).part
  else
    let s1 := s.setSlot p i { x with state := .waiting, joinStamp := s.now }
    { s1 with pendingList := joinOrPlace x.channel { port := p, slot := i } s1.pendingList }

/-! ## Takes -/

/-- The entry an engine of the kind may take: nearest the head, its channel not reserved (R48, R49, R51). -/
def State.takeable (s : State) (ofLocal : Bool) : Option PendingEntry :=
  s.pendingList.find? fun e => isLocal e.channel == ofLocal && !(s.result e.channel).reserved

/-- How many conversions of an engine are in flight (R41). -/
def State.inFlightOf (s : State) (e : Engine) : Nat :=
  (s.inFlight.filter fun r => decide (r.engine = e)).length

/-- The conversion record a take makes of an entry (R50). -/
def takenRecord (s : State) (engine : Engine) (e : PendingEntry) : ConversionRecord :=
  { channel := e.channel, engine := engine, waiters := e.waiters, startStamp := s.now
    generation := (s.channel e.channel).generation, restarts := e.restarts, outcome := none }

/-- The take (R50): the entry leaves the list, its record enters the In-Flight Set, the channel becomes reserved. -/
def State.startConversion (s : State) (engine : Engine) (e : PendingEntry) : State :=
  let s1 := s.setReserved e.channel true
  { s1 with
    pendingList := s.pendingList.eraseP (fun x => decide (x.channel = e.channel))
    inFlight := s.inFlight ++ [takenRecord s engine e] }

/-! ## Hand-off and completion -/

/-- An outcome is handed over: it is written into the channel's conversion record (R52). -/
def State.handOff (s : State) (c : Channel) (o : ConversionOutcome) : State :=
  { s with inFlight := s.inFlight.map (fun r => if r.channel = c then { r with outcome := some o } else r) }

/-- The part of the result entry that a completion writes (R68). -/
def completedPart (previous : ResultPart) (r : ConversionRecord) (o : ConversionOutcome) (now : Stamp) : ResultPart :=
  { value := o.value, status := o.status, sequence := previous.sequence + 1, startStamp := r.startStamp, endStamp := now
    generation := r.generation, restarts := r.restarts }

/-- Deliver one result to every waiter of a set, each port's in increasing order of slot number (R53). -/
def State.deliverAll (s : State) (waiters : List Waiter) (part : ResultPart) : State :=
  (allWaiters.filter fun w => decide (w ∈ waiters)).foldl (fun t w => t.deliver w.port w.slot .conversion part) s

/-- The completion of a channel's conversion from the outcome in its record (R52): the record leaves the In-Flight
Set, the result entry is written and unreserved, the waiters get their deliveries, and a BUS_* status sets BUS_FAULT of
both ports. With no outcome handed over there is no completion. -/
def State.complete (s : State) (c : Channel) : State :=
  match s.inFlight.find? (fun r => decide (r.channel = c)) with
  | none => s
  | some r =>
    match r.outcome with
    | none => s
    | some o =>
      let part := completedPart (s.result c).part r o s.now
      let s1 := { s with inFlight := s.inFlight.eraseP (fun x => decide (x.channel = c)) }
      let s2 := s1.setResult c { valid := true, reserved := false, part := part }
      let s3 := s2.deliverAll r.waiters part
      if o.status.isBus then (s3.raise .a .busFault).raise .b .busFault else s3

/-! ## Removal of waiters -/

/-- A pending entry when the waiters chosen leave it: gone when that empties it (R55, R56). -/
def thinnedEntry (chosen : Waiter → Bool) (e : PendingEntry) : Option PendingEntry :=
  if e.waiters.any chosen then
    let rest := dropWaiters chosen e.waiters
    if rest.isEmpty then none else some { e with waiters := rest }
  else some e

/-- Remove the waiters chosen from every waiter set; conversions in flight run on (R55, R56). -/
def State.removeWaiters (s : State) (chosen : Waiter → Bool) : State :=
  { s with
    pendingList := s.pendingList.filterMap (thinnedEntry chosen)
    inFlight := s.inFlight.map (fun r => { r with waiters := dropWaiters chosen r.waiters }) }

/-! ## Withdrawal -/

/-- End a slot with CHANNEL_OFF if it is WAITING or DORMANT on the channel (R34). -/
def State.withdrawSlot (s : State) (c : Channel) (w : Waiter) : State :=
  let x := s.slot w.port w.slot
  if x.channel = c ∧ (x.state = .waiting ∨ x.state = .dormant) then s.endSlot w.port w.slot .channelOff else s

/-- The withdrawal of a channel turned OFF (R57): its entry leaves the list and its slots end, each port's in
increasing order of slot number. -/
def State.withdraw (s : State) (c : Channel) : State :=
  allWaiters.foldl (fun t w => t.withdrawSlot c w)
    { s with pendingList := s.pendingList.filter (fun e => decide (e.channel ≠ c)) }

/-! ## Quiet windows -/

/-- Requeue a discarded conversion's waiters at the head of the list (R61). -/
def requeue (r : ConversionRecord) (l : List PendingEntry) : List PendingEntry :=
  if r.waiters.isEmpty then l
  else
    let others := l.filter (fun e => decide (e.channel ≠ r.channel))
    let joined := (l.filter (fun e => decide (e.channel = r.channel))).foldr (fun e ws => unionWaiters e.waiters ws) r.waiters
    { channel := r.channel, waiters := joined, restarts := satInc r.restarts } :: others

/-- Discard the local conversion being counted (R61): its record leaves the In-Flight Set, the channel is unreserved
without a write, and its waiters return to the head of the list. -/
def State.discard (s : State) (c : Channel) : State :=
  match s.inFlight.find? (fun r => decide (r.channel = c)) with
  | none => s
  | some r =>
    let s1 := s.setReserved c false
    { s1 with
      inFlight := s.inFlight.eraseP (fun x => decide (x.channel = c))
      pendingList := requeue r s.pendingList }

/-- The onset of quiet activity acts on the converter by its state (R60, R107). -/
def State.quietOnset (s : State) : State :=
  match s.converter.state with
  | .idle => { s with converter := { s.converter with state := .held } }
  | .ref cur => { s.discard cur.channel with converter := { state := .held, cycleCounter := 0, spanCounter := 0, wave := .low } }
  | .sense cur => { s.discard cur.channel with converter := { state := .held, cycleCounter := 0, spanCounter := 0, wave := .low } }
  | .ratioWait _ _ => s
  | .held => s

/-- The end of quiet activity returns a HELD converter to IDLE (R62, R108). -/
def State.quietEnds (s : State) : State :=
  match s.converter.state with
  | .held => { s with converter := { s.converter with state := .idle } }
  | .idle => s
  | .ref _ => s
  | .sense _ => s
  | .ratioWait _ _ => s

/-- Open or replace a port's window (R36, R58): from no window at all this is the onset (R60). -/
def State.openQuiet (s : State) (p : Port) (endTick : Stamp) : State :=
  let s1 := (s.setPort p { s.port p with quietEnd := some endTick }).placeDeadline (.quietEnd p) endTick
  if s.quietActive then s1 else s1.quietOnset

/-- Remove a port's window if it has one, with its deadline (R36, R59, R63): if that leaves none, activity ends (R62). -/
def State.closeQuiet (s : State) (p : Port) : State :=
  if (s.port p).quietEnd.isSome then
    let s1 := (s.setPort p { s.port p with quietEnd := none }).dropDeadline (.quietEnd p)
    if s1.quietActive then s1 else s1.quietEnds
  else s

end Sys2Proof.Machine
end

