-- ==== Sys2Proof/Machine/Requests.lean ====
section
/-! DEFINITION. What a commit decides (02_requests_and_slots.md, 01_channels_and_configuration_claims.md): the checks of
each request kind in their order, the effect when accepted, and the submit status (R19, R20). The command word has been
stored before (R19). -/

namespace Sys2Proof.Machine

/-- What a commit comes to: the state, the submit code and the submit slot. -/
structure Decision where
  state : State
  code : SubmitCode
  slot : Option SlotNo
  deriving DecidableEq, Repr

/-- A refusal leaves everything as it is and reports no slot (R19). -/
def State.refuse (s : State) (code : SubmitCode) : Decision := { state := s, code := code, slot := none }

/-- An acceptance that concerns no slot (R19). -/
def State.accept (s : State) : Decision := { state := s, code := .accepted, slot := none }

/-- An acceptance that gives or cancels a slot (R19). -/
def State.acceptSlot (s : State) (i : SlotNo) : Decision := { state := s, code := .accepted, slot := some i }

/-- The staging words of a port as they stand. -/
def State.staging (s : State) (p : Port) : Staging := (s.port p).staging

/-- CONVERT (R25): channel, enable, a FREE slot; then the slot is given and the request procedure runs. -/
def State.decideConvert (s : State) (p : Port) : Decision :=
  match channelOf (s.staging p).channel with
  | none => s.refuse .badChannel
  | some c =>
    if (s.channel c).enable then
      match s.freeSlot p with
      | none => s.refuse .noSlot
      | some i =>
        let x := { Slot.free with kind := .convert, channel := c, tag := (s.staging p).tag, maxAge := (s.staging p).paramB }
        ((s.setSlot p i x).requestConversion p i).acceptSlot i
    else s.refuse .channelOff

/-- The next due of a WATCH accepted now: the tick of the commit plus the period (R27). -/
def State.firstDue (s : State) (p : Port) : Stamp := s.now + (s.staging p).paramA.setWidth 32

/-- WATCH (R26, R27): channel, enable, period, a FREE slot; then the slot is given, its due deadline placed, and the
request procedure runs. -/
def State.decideWatch (s : State) (p : Port) : Decision :=
  match channelOf (s.staging p).channel with
  | none => s.refuse .badChannel
  | some c =>
    if (s.channel c).enable then
      if inRange (s.staging p).paramA 8 65535 then
        match s.freeSlot p with
        | none => s.refuse .noSlot
        | some i =>
          let x := { Slot.free with
            kind := .watch, channel := c, tag := (s.staging p).tag, maxAge := (s.staging p).paramB
            period := (s.staging p).paramA, nextDue := s.firstDue p }
          (((s.setSlot p i x).placeDeadline (.watchDue p i) (s.firstDue p)).requestConversion p i).acceptSlot i
      else s.refuse .badParam
    else s.refuse .channelOff

/-- CANCEL (R32, R33): a WAITING slot first leaves its waiter set; then the slot's request ends with CANCELLED. -/
def State.decideCancel (s : State) (p : Port) : Decision :=
  match slotOf (s.staging p).paramA with
  | none => s.refuse .badSlot
  | some i =>
    match (s.slot p i).state with
    | .waiting => ((s.removeWaiters (fun w => decide (w = { port := p, slot := i }))).endSlot p i .cancelled).acceptSlot i
    | .dormant => (s.endSlot p i .cancelled).acceptSlot i
    | .free => s.refuse .badSlot
    | .finished => s.refuse .badSlot

/-- CLAIM (R6): channel, duration, holder none or this port; then the claim is granted or renewed from now. -/
def State.decideClaim (s : State) (p : Port) : Decision :=
  match channelOf (s.staging p).channel with
  | none => s.refuse .badChannel
  | some c =>
    if inRange (s.staging p).paramA 1 4096 then
      if (s.channel c).holder = some (peer p) then s.refuse .heldByPeer
      else
        let expiry := s.now + (s.staging p).paramA.setWidth 32
        let s1 := s.setChannel c { s.channel c with holder := some p, expiry := expiry }
        (s1.placeDeadline (.claim c) expiry).accept
    else s.refuse .badParam

/-- A channel's claim ends: holder none, expiry 0 and no deadline (R8, R9). -/
def State.endClaim (s : State) (c : Channel) : State :=
  (s.setChannel c { s.channel c with holder := none, expiry := 0 }).dropDeadline (.claim c)

/-- RELEASE (R8): channel, holder this port; then the claim ends without CLAIM_LAPSED. -/
def State.decideRelease (s : State) (p : Port) : Decision :=
  match channelOf (s.staging p).channel with
  | none => s.refuse .badChannel
  | some c => if (s.channel c).holder = some p then (s.endClaim c).accept else s.refuse .notHeld

/-- The bus address of a record of kind REMOTE. -/
def KindFields.address : KindFields → Option (BitVec 7)
  | .localKind _ _ _ => none
  | .remoteKind address _ _ => some address

/-- The bus address asked for is that of another remote channel whose enable is ON (R11 check 5, R12). -/
def State.addressInUse (s : State) (c : Channel) (f : KindFields) : Bool :=
  match f.address with
  | none => false
  | some address =>
    (List.finRange 16).any fun d =>
      decide (d ≠ c) && (s.channel d).enable && decide ((s.channel d).fields.address = some address)

/-- CONFIGURE (R11): channel, holder, reservation; then OFF (R13), or ON with its ranges and address (R12). -/
def State.decideConfigure (s : State) (p : Port) : Decision :=
  match channelOf (s.staging p).channel with
  | none => s.refuse .badChannel
  | some c =>
    if (s.channel c).holder = some p then
      if (s.result c).reserved then s.refuse .channelBusy
      else if settingsEnable (s.staging p).settings then
        match requestedFields c (s.staging p) with
        | none => s.refuse .configRange
        | some f =>
          if s.addressInUse c f then s.refuse .addressInUse
          else
            (s.setChannel c { s.channel c with
              enable := true, round := settingsRound (s.staging p).settings, fields := f
              generation := (s.channel c).generation + 1 }).accept
      else
        ((s.setChannel c { s.channel c with
          enable := false, generation := (s.channel c).generation + 1 }).withdraw c).accept
    else s.refuse .notHolder

/-- QUIET (R36): the duration; then the window is opened, replaced or removed. -/
def State.decideQuiet (s : State) (p : Port) : Decision :=
  if inRange (s.staging p).paramA 0 1024 then
    if (s.staging p).paramA = 0 then (s.closeQuiet p).accept
    else (s.openQuiet p (s.now + (s.staging p).paramA.setWidth 32)).accept
  else s.refuse .badParam

/-- A command word that names no kind (R20). -/
def State.decideBadKind (s : State) : Decision := s.refuse .badKind

/-- What a commit decides (R20): started, then the kind of the whole command word. -/
def State.decideCommit (s : State) (p : Port) : Decision :=
  match s.timebase.startState with
  | .starting => s.refuse .notStarted
  | .running =>
    match (s.staging p).command.toNat with
    | 1 => s.decideConvert p
    | 2 => s.decideWatch p
    | 3 => s.decideCancel p
    | 4 => s.decideClaim p
    | 5 => s.decideRelease p
    | 6 => s.decideConfigure p
    | 7 => s.decideQuiet p
    | _ => s.decideBadKind

/-- The submit status of a commit: the count increased by 1, the code, and the slot (R19). -/
def Decision.report (d : Decision) (p : Port) : State :=
  let x := d.state.port p
  d.state.setPort p { x with submitCount := x.submitCount + 1, submitCode := d.code, submitSlot := d.slot }

/-- A commit, taken as one event (R19). -/
def State.commit (s : State) (p : Port) : State := (s.decideCommit p).report p

end Sys2Proof.Machine
end

