-- ==== Sys2Proof/Machine/Resets.lean ====
section
/-! DEFINITION. Resets: a port's (R159, R160), the device's (R42, R143), and the release of their pins (R159). -/

namespace Sys2Proof.Machine

/-- The deadlines of port `p`'s items: its WATCH slots, its claims and its quiet window (R10, R37, R63, R148). -/
def State.ownsDeadline (s : State) (p : Port) : DeadlineItem → Bool
  | .watchDue q _ => decide (q = p)
  | .claim c => decide ((s.channel c).holder = some p)
  | .quietEnd q => decide (q = p)
  | .readDue _ => false
  | .holdLimit => false
  | .busWait => false

/-- A channel record when port `p`'s claims are freed (R10). -/
def freedClaim (p : Port) (x : ChannelRecord) : ChannelRecord :=
  if x.holder = some p then { x with holder := none, expiry := 0 } else x

/-- A port reset (R159, R160): the port's own state, its waiters (R56), deadlines, claims (R10), queue (R83) and quiet
window; if it held the only window, activity ends (R63). The level of its pin is `rstN` afterwards. -/
def State.resetPort (s : State) (p : Port) (rstN : Level) : State :=
  let s1 := s.removeWaiters (fun w => decide (w.port = p))
  let s2 := { s1 with
    timebase := s.timebase.dropAll (s.ownsDeadline p)
    channels := Vector.ofFn (fun c : Channel => freedClaim p (s.channel c)) }
  let s3 := s2.setPort p (PortState.reset rstN)
  if s.quietActive = true ∧ s3.quietActive = false then s3.quietEnds else s3

/-- RESET_N after a device reset: low when its fall is the cause, else as it stands. -/
def pinAfter (level : Level) : ResetCause → Level
  | .powerOn _ => level
  | .resetPin => .low

/-- The bus rate after a device reset: XRATE is sampled at power-on, and otherwise when RESET_N rises (R115; log 21). -/
def rateAfter (rate : BusRate) : ResetCause → BusRate
  | .powerOn xrate => rateOf xrate
  | .resetPin => rate

/-- A device reset (R42, R160): every block takes its reset values. The levels of the pins are the outside's. -/
def State.resetDevice (s : State) (cause : ResetCause) : State :=
  State.deviceReset s.pending (pinAfter s.resetN cause) s.portA.rstN s.portB.rstN (rateAfter s.bus.rate cause)

/-- PxRST_N rises: the held state ends with the port's reset values as they stand (R159). -/
def State.releasePort (s : State) (p : Port) : State := s.setPort p { s.port p with rstN := .high }

/-- RESET_N rises (R115, R143, R159): XRATE is sampled, and the Timebase may count. A pin that is high does not rise. -/
def State.releaseDevice (s : State) (xrate : Level) : State :=
  if s.resetN = .low then { s with resetN := .high, bus := { s.bus with rate := rateOf xrate } } else s

/-- PORT_RESET (R160). -/
def execPortReset (p : Port) (s : State) : StepOutcome := .next (s.resetPort p .low)

/-- PORT_RESET_RELEASE (R159). -/
def execPortResetRelease (p : Port) (s : State) : StepOutcome := .next (s.releasePort p)

/-- DEVICE_RESET (R42). -/
def execDeviceReset (cause : ResetCause) (s : State) : StepOutcome := .next (s.resetDevice cause)

/-- RESET_N_RELEASE (R159). -/
def execResetNRelease (xrate : Level) (s : State) : StepOutcome := .next (s.releaseDevice xrate)

end Sys2Proof.Machine
end

