-- ==== Sys2Proof/Machine/Views.lean ====
section
/-! DEFINITION. The words of every record of a port's window (11_window_and_record_layouts.md, R161), as a snapshot copies
them (R153). -/

namespace Sys2Proof.Machine

/-- Port status, 000h to 003h (R156, 11.3). -/
def State.portStatusWords (s : State) (p : Port) : List Word :=
  let x := s.port p
  [ flagBit 0 (decide (s.timebase.startState = .running)) ||| flagBit 1 (decide (p = .b))
      ||| flagBit 2 x.quietEnd.isSome ||| flagBit 3 s.quietActive,
    field 0 x.submitCode.code ||| field 8 x.submitCount.toNat,
    field 0 (match x.submitSlot with | some i => i.val | none => 0xF) ||| field 8 x.queue.length,
    field 0 s.pendingList.length ]

/-- The head of the Response Queue, 020h to 02Eh; all zero when there is none (R82, 11.4). -/
def responseHeadWords : Option ResponseRecord → List Word
  | none => List.replicate 15 0
  | some r =>
    [ field 0 r.disposition.code ||| flagBit 2 r.final ||| field 3 r.source.code ||| field 5 r.kind.code
        ||| field 8 r.slot.val ||| field 12 r.channel.val,
      r.tag, r.version, r.coalesced, field 0 r.missed.toNat ]
    ++ (match r.part with
        | none => List.replicate 8 0
        | some q =>
          [ q.value, field 0 q.status.code ||| field 8 q.restarts.toNat, q.sequence, field 0 q.generation.toNat,
            lowWord q.startStamp, highWord q.startStamp, lowWord q.endStamp, highWord q.endStamp ])
    ++ [0, 0]

/-- An entry of the Result Table view (R71, 11.4). -/
def resultWords (e : ResultEntry) : List Word :=
  [ flagBit 0 e.valid ||| flagBit 1 e.reserved ||| field 4 e.part.restarts.toNat ||| field 8 e.part.status.code,
    e.part.value, e.part.sequence, field 0 e.part.generation.toNat,
    lowWord e.part.startStamp, highWord e.part.startStamp, lowWord e.part.endStamp, highWord e.part.endStamp ]

/-- The claim holder from a port's side: 0 none, 1 this port, 2 the other port (R16, 11.4). -/
def holderCode (p : Port) : Option Port → Nat
  | none => 0
  | some q => if q = p then 1 else 2

/-- The span clock as a bit (11.4). -/
def spanClockBit : SpanClock → Nat
  | .slow => 0
  | .fast => 1

/-- The fields of the record's own kind in words 0 to 3 of a Channel Table record: the span clock bit, then words 1, 2
and 3 (11.4). -/
def kindWords : KindFields → Word × List Word
  | .localKind input n clock => (field 3 (spanClockBit clock), [n, field 0 input.val, 0])
  | .remoteKind address settle limit => (0, [address.setWidth 16, settle.setWidth 16, limit.setWidth 16])

/-- A record of the Channel Table view, from port `p`'s side (R15, R16, 11.4). -/
def State.channelWords (s : State) (p : Port) (c : Channel) : List Word :=
  let x := s.channel c
  [ flagBit 0 (!isLocal c) ||| flagBit 1 x.enable ||| flagBit 2 x.round ||| (kindWords x.fields).1
      ||| flagBit 4 (s.result c).reserved ||| field 5 (holderCode p x.holder) ||| field 8 x.generation.toNat ]
    ++ (kindWords x.fields).2 ++ [lowWord x.expiry, highWord x.expiry, 0, 0]

/-- The pending-order view: channels in list order, then FFFFh (R64, 11.4). -/
def pendingOrderWords (l : List PendingEntry) : List Word :=
  (l.map (fun e : PendingEntry => field 0 e.channel.val) ++ List.replicate 16 0xFFFF).take 16

/-- A slot of the slot view (R39, 11.4). -/
def slotWords (x : Slot) : List Word :=
  [ field 0 x.state.code ||| field 4 x.kind.code, field 0 x.channel.val ||| field 8 x.missed.toNat, x.tag,
    lowWord x.nextDue, lowWord x.joinStamp, highWord x.joinStamp ]

/-- The words of a record as port `p` sees it now. -/
def State.recordWords (s : State) (p : Port) : RecordName → List Word
  | .portStatus => s.portStatusWords p
  | .event => [(s.port p).flags.word]
  | .tick => [lowWord s.now, highWord s.now]
  | .identity => [Config.identity]
  | .responseHead => responseHeadWords (s.port p).queue.head?
  | .result c => resultWords (s.result c)
  | .channel c => s.channelWords p c
  | .pendingOrder => pendingOrderWords s.pendingList
  | .slot i => slotWords (s.slot p i)

end Sys2Proof.Machine
end

