-- ==== Sys2Proof/Machine/Ports.lean ====
section
/-! DEFINITION. The cycles of a host port (10_host_ports.md): pointers (R152), snapshots and reads (R153, R157), writes of
the window (R154), the port control word (R155, R163), and cycles that close too early (R150). A cycle is one step; what it
does is set by its access type and by where the pointer stands, as the tables of R149 and R154 say (log 2). -/

namespace Sys2Proof.Machine

/-- The cycle opens: PxCS_N is low at the strobe's fall and the port is not held in reset (R149, R159). -/
def State.opens (s : State) (p : Port) (selected : Bool) : Bool := selected && !s.held p

/-- What the port drove on PxD in its last cycle. -/
def State.drive (s : State) (p : Port) (w : Option Word) : State := s.setPort p { s.port p with dataOut := w }

/-! ## Pointers -/

/-- The advance after a read: the read pointer, and in LINKED mode the other with it (R152). -/
def PortState.advanceRead (x : PortState) : PortState :=
  if pointerSplit x.control then { x with readPtr := x.readPtr + 1 }
  else { x with readPtr := x.readPtr + 1, writePtr := x.writePtr + 1 }

/-- The advance after a write: the write pointer, and in LINKED mode the other with it (R152). -/
def PortState.advanceWrite (x : PortState) : PortState :=
  if pointerSplit x.control then { x with writePtr := x.writePtr + 1 }
  else { x with readPtr := x.readPtr + 1, writePtr := x.writePtr + 1 }

/-- A POINTER write: both pointers in LINKED mode, the selected one in SPLIT mode, modulo 512 (R152). -/
def PortState.writePointer (x : PortState) (w : Word) : PortState :=
  if pointerSplit x.control then
    if pointerSelectsWrite x.control then { x with writePtr := w.setWidth 9 } else { x with readPtr := w.setWidth 9 }
  else { x with readPtr := w.setWidth 9, writePtr := w.setWidth 9 }

/-- The word a POINTER read returns (R152, R161). -/
def PortState.pointerWord (x : PortState) : Word :=
  if pointerSplit x.control && pointerSelectsWrite x.control then x.writePtr.setWidth 16 else x.readPtr.setWidth 16

/-- The word a CONTROL read returns (R155, R163). -/
def PortState.controlWord (x : PortState) : Word := x.control.setWidth 16

/-! ## Writes -/

/-- What a DATA write stores at a window address (R154): a staging word, a commit at 010h, an acknowledgement at 02Fh,
or nothing. -/
def State.storeAt (s : State) (p : Port) (address : BitVec 9) (w : Word) : State :=
  match windowTarget address with
  | .staging i =>
    let s1 := s.setPort p { s.port p with staging := (s.port p).staging.store i w }
    if i = 0 then s1.commit p else s1
  | .ackWord => s.acknowledge p w
  | .record _ _ => s
  | .unused => s

/-- A DATA write cycle (R149, R154): the word is stored at the write pointer, then the pointer advances if asked. -/
def State.dataWrite (s : State) (c : DataCycle) (w : Word) : State :=
  if s.opens c.port c.selected then
    let s1 := s.storeAt c.port (s.port c.port).writePtr w
    let s2 := if c.advance then s1.setPort c.port (s1.port c.port).advanceWrite else s1
    s2.drive c.port none
  else s

/-- A CONTROL write cycle (R155, R163): with the reset action the port is reset and the other fields are not kept. -/
def State.controlWrite (s : State) (p : Port) (selected : Bool) (w : Word) : State :=
  if s.opens p selected then
    if controlResets w then s.resetPort p (s.port p).rstN
    else (s.setPort p { s.port p with control := storedControl w }).drive p none
  else s

/-- A POINTER write cycle (R152). -/
def State.pointerWrite (s : State) (p : Port) (selected : Bool) (w : Word) : State :=
  if s.opens p selected then (s.setPort p ((s.port p).writePointer w)).drive p none else s

/-! ## Reads -/

/-- Copy a whole record into the Read Buffer (R153). -/
def State.takeSnapshot (s : State) (p : Port) (r : RecordName) : State :=
  s.setPort p { s.port p with buffer := some { record := r, words := s.recordWords p r } }

/-- The Read Buffer holds a snapshot of the record. -/
def PortState.holdsSnapshot (x : PortState) (r : RecordName) : Bool := decide (x.buffer.map (·.record) = some r)

/-- The snapshot that a read of an address needs: always for a record's first word, otherwise when the buffer holds no
snapshot of the record (R153). -/
def State.snapshotFor (s : State) (p : Port) (address : BitVec 9) : State :=
  match windowTarget address with
  | .record r offset => if offset = 0 ∨ (s.port p).holdsSnapshot r = false then s.takeSnapshot p r else s
  | .staging _ => s
  | .ackWord => s
  | .unused => s

/-- The word a DATA read of an address drives, once any snapshot it needs is in the buffer (R153). -/
def State.wordAt (s : State) (p : Port) (address : BitVec 9) : Word :=
  match windowTarget address with
  | .record _ offset =>
    match (s.port p).buffer with
    | some b => b.words.getD offset 0
    | none => 0
  | .staging i => (s.port p).staging.get i
  | .ackWord => 0
  | .unused => 0

/-- The event record's copy has been driven with PxRDY high: exactly the flags set in it are cleared (R157). -/
def State.clearDriven (s : State) (p : Port) (address : BitVec 9) (w : Word) : State :=
  if windowTarget address = .record .event 0 then
    s.setPort p { s.port p with flags := (s.port p).flags.clearReturned w }
  else s

/-- A DATA read cycle (R149, R153): snapshot if needed, the word driven, the pointer advanced if asked. -/
def State.dataRead (s : State) (p : Port) (advance : Bool) : State :=
  let address := (s.port p).readPtr
  let s1 := s.snapshotFor p address
  let w := s1.wordAt p address
  let s2 := s1.clearDriven p address w
  let s3 := if advance then s2.setPort p (s2.port p).advanceRead else s2
  s3.drive p (some w)

/-- A read cycle by its access type (R149). -/
def State.readCycle (s : State) (p : Port) (selected : Bool) (access : Access) : State :=
  if s.opens p selected then
    match access with
    | .control => s.drive p (some (s.port p).controlWord)
    | .pointer => s.drive p (some (s.port p).pointerWord)
    | .dataAdvance => s.dataRead p true
    | .data => s.dataRead p false
  else s

/-- The access type is one of the two DATA accesses. -/
def isData : Access → Bool
  | .control => false
  | .pointer => false
  | .dataAdvance => true
  | .data => true

/-- A cycle closed while PxRDY is low (R150): a DATA read's snapshot is taken all the same and clears no flag, a read
has driven FFFFh, nothing is stored or advanced, and EARLY_STROBE is set. -/
def State.earlyClose (s : State) (p : Port) (selected : Bool) (access : Access) (isRead : Bool) : State :=
  if s.opens p selected then
    let s1 := if isRead && isData access then s.snapshotFor p (s.port p).readPtr else s
    (s1.drive p (if isRead then some 0xFFFF else none)).raise p .earlyStrobe
  else s

/-! ## The commands -/

/-- CONVERT (R25): the DATA write of kind code 1. -/
def execConvert (c : DataCycle) (s : State) : StepOutcome := .next (s.dataWrite c 1)

/-- WATCH (R27): the DATA write of kind code 2. -/
def execWatch (c : DataCycle) (s : State) : StepOutcome := .next (s.dataWrite c 2)

/-- CANCEL (R33): the DATA write of kind code 3. -/
def execCancel (c : DataCycle) (s : State) : StepOutcome := .next (s.dataWrite c 3)

/-- CLAIM (R6): the DATA write of kind code 4. -/
def execClaim (c : DataCycle) (s : State) : StepOutcome := .next (s.dataWrite c 4)

/-- RELEASE (R8): the DATA write of kind code 5. -/
def execRelease (c : DataCycle) (s : State) : StepOutcome := .next (s.dataWrite c 5)

/-- CONFIGURE (R11): the DATA write of kind code 6. -/
def execConfigure (c : DataCycle) (s : State) : StepOutcome := .next (s.dataWrite c 6)

/-- QUIET (R36): the DATA write of kind code 7. -/
def execQuiet (c : DataCycle) (s : State) : StepOutcome := .next (s.dataWrite c 7)

/-- COMMIT_BAD_KIND (R20): the DATA write of a word that names no kind. -/
def execCommitBadKind (c : DataCycle) (word : Word) (s : State) : StepOutcome := .next (s.dataWrite c word)

/-- ACKNOWLEDGEMENT (R79): the DATA write of a version. -/
def execAcknowledgement (c : DataCycle) (version : Word) (s : State) : StepOutcome := .next (s.dataWrite c version)

/-- STAGING_WRITE (R154): a DATA write. -/
def execStagingWrite (c : DataCycle) (word : Word) (s : State) : StepOutcome := .next (s.dataWrite c word)

/-- CONTROL_WRITE (R155). -/
def execControlWrite (p : Port) (selected : Bool) (word : Word) (s : State) : StepOutcome :=
  .next (s.controlWrite p selected word)

/-- RESET_ACTION (R159): the CONTROL write of a word with the reset action set. -/
def execResetAction (p : Port) (selected : Bool) (word : Word) (s : State) : StepOutcome :=
  .next (s.controlWrite p selected (word ||| 0x8000))

/-- POINTER_WRITE (R152). -/
def execPointerWrite (p : Port) (selected : Bool) (word : Word) (s : State) : StepOutcome :=
  .next (s.pointerWrite p selected word)

/-- SNAPSHOT (R153): the read cycle of an access type (log 3). -/
def execSnapshot (p : Port) (selected : Bool) (access : Access) (s : State) : StepOutcome :=
  .next (s.readCycle p selected access)

/-- EVENT_RECORD_READ (R157): a DATA read; with the read pointer at 004h it returns and clears the flags. -/
def execEventRecordRead (c : DataCycle) (s : State) : StepOutcome :=
  .next (s.readCycle c.port c.selected (if c.advance then .dataAdvance else .data))

/-- EARLY_STROBE (R150). -/
def execEarlyStrobe (p : Port) (selected : Bool) (access : Access) (isRead : Bool) (s : State) : StepOutcome :=
  .next (s.earlyClose p selected access isRead)

end Sys2Proof.Machine
end

