-- ==== Sys2Proof/Machine/Ratio.lean ====
section
/-! DEFINITION. The Ratio Unit (05_the_ratio_unit.md): arrivals and hand-offs (R85, R86, R105, R139), the choice of
input (R87), the division (R89 to R91), and DIVISION_END (R92). -/

namespace Sys2Proof.Machine

/-! ## Arrivals and hand-offs -/

/-- A job arrives at an engine's input; a free divider takes it at once and the input is empty again (R86). -/
def State.arrive (s : State) (input : Engine) (j : Job) : State :=
  match s.ratio.divider with
  | none => { s with ratio := { s.ratio with divider := some j } }
  | some _ =>
    match input with
    | .localEngine => { s with ratio := { s.ratio with localInput := some j } }
    | .remoteEngine => { s with ratio := { s.ratio with remoteInput := some j } }

/-- The converter after a hand-off: counters 0, OSCMON low, IDLE, or HELD while quiet is active (R104, R105). -/
def State.converterHandedOff (s : State) : Converter :=
  { state := if s.quietActive then .held else .idle, cycleCounter := 0, spanCounter := 0, wave := .low }

/-- The emptied local input takes the job of a converter in RATIO_WAIT (R85, R105). -/
def State.localInputEmptied (s : State) : State :=
  match s.converter.state with
  | .ratioWait _ j => { s.arrive .localEngine j with converter := s.converterHandedOff }
  | .idle => s
  | .held => s
  | .ref _ => s
  | .sense _ => s

/-- The job of a row whose counts are ready (R139). -/
def rowJob (x : Row) : Job := { channel := x.channel, m := x.m, n := x.n, round := x.round, origin := .remoteEngine }

/-- The emptied remote input takes the job of the row at the head of the wait order (R85, R139). -/
def State.remoteInputEmptied (s : State) : State :=
  match s.remote.waitOrder with
  | [] => s
  | r :: rest =>
    let s1 := (s.arrive .remoteEngine (rowJob (s.row r))).setRow r Row.free
    { s1 with remote := { s1.remote with waitOrder := rest } }

/-- The divider takes the job of the local input, which empties. -/
def State.divideLocal (s : State) (j : Job) : State :=
  { s with ratio := { s.ratio with divider := some j, localInput := none } }.localInputEmptied

/-- The divider takes the job of the remote input, which empties. -/
def State.divideRemote (s : State) (j : Job) : State :=
  { s with ratio := { s.ratio with divider := some j, remoteInput := none } }.remoteInputEmptied

/-- A divider that has become free takes a job that waits (R86); with one in each input, the one of the input the
marker does not name, which the marker then names (R87). -/
def State.dividerFreed (s : State) : State :=
  match s.ratio.localInput, s.ratio.remoteInput with
  | none, none => s
  | some j, none => s.divideLocal j
  | none, some j => s.divideRemote j
  | some jl, some jr =>
    match s.ratio.marker with
    | .remoteEngine => { s with ratio := { s.ratio with marker := .localEngine } }.divideLocal jl
    | .localEngine => { s with ratio := { s.ratio with marker := .remoteEngine } }.divideRemote jr

/-! ## The division -/

/-- Steps 2 to 6 of the division, `k` of them: eight times the remainder divided by N gives the next digit (R90). -/
def quotientSteps (n : Nat) : Nat → Nat → Nat → Nat
  | 0, _, q => q
  | k + 1, rem, q => quotientSteps n k (8 * rem - 8 * rem / n * n) (8 * q + 8 * rem / n)

/-- The six radix-8 steps that form Q (R90). -/
def quotient (m n : Nat) : Nat := quotientSteps n 5 (m - m / n * n) (m / n)

/-- The ratio value from Q (R91). -/
def ratioValue (round : Bool) (q : Nat) : Word := BitVec.ofNat 16 (if round then (q + 1) / 2 else q / 2)

/-- The outcome of a job: the check of N, the range check, then the quotient (R89). -/
def divide (j : Job) : ConversionOutcome :=
  if j.n.toNat = 0 then { value := 0, status := .remoteDataInvalid }
  else if 4 * j.n.toNat ≤ j.m.toNat then { value := 0, status := .overRange }
  else { value := ratioValue j.round (quotient j.m.toNat j.n.toNat), status := .ok }

/-- The end of the division in progress: its outcome is handed over, and in the same event the divider becomes free
and acts on what stands in the inputs (R92). A free divider ends nothing. -/
def State.divisionEnd (s : State) : State :=
  match s.ratio.divider with
  | none => s
  | some j =>
    let s1 := s.handOff j.channel (divide j)
    { s1 with ratio := { s1.ratio with divider := none } }.dividerFreed

/-- DIVISION_END (R92). -/
def execDivisionEnd (s : State) : StepOutcome := .next s.divisionEnd

/-- COMPLETION (R52). -/
def execCompletion (c : Channel) (s : State) : StepOutcome := .next (s.complete c)

end Sys2Proof.Machine
end

