-- ==== Sys2Proof/Machine/Oscillator.lean ====
section
/-! DEFINITION. The Oscillator Converter (06_the_oscillator_converter.md): its two counters, which count every cycle of the
running oscillator and every period of the span clock (R97, R100, R102), and its events LOCAL_TAKE, REFERENCE_PHASE_END,
SPAN_OVERFLOW, SENSING_PHASE_END and CYCLE_COUNTER_OVERFLOW. Each phase end is the edge that brings it about, whether it
comes as the command of its own row or among the edges that another command counts (log 6). -/

namespace Sys2Proof.Machine

/-! ## The take -/

/-- The Cycle Counter's load, 65536 − N (R99). -/
def cycleLoad (presetN : Word) : Word := 0 - presetN

/-- The take of a local entry (R48, R99), when all its conditions hold. -/
def State.localTake (s : State) : State :=
  if s.converter.state = .idle ∧ s.quietActive = false ∧ s.inFlightOf .localEngine < Config.maxLocalInFlight then
    match s.takeable true with
    | none => s
    | some e =>
      match (s.channel e.channel).fields with
      | .localKind input n clock =>
        let cur : Current :=
          { channel := e.channel, sensorInput := input, presetN := n, spanClock := clock, round := (s.channel e.channel).round }
        { s.startConversion .localEngine e with
          converter := { state := .ref cur, cycleCounter := cycleLoad n, spanCounter := 0, wave := .low } }
      | .remoteKind _ _ _ => s
  else s

/-! ## What ends a phase -/

/-- A local error outcome (R106): counters 0, OSCMON low, the converter IDLE, and the status with value 0 handed over. -/
def State.localError (s : State) (cur : Current) (status : Status) : State :=
  { s.handOff cur.channel { value := 0, status := status } with converter := .reset }

/-- The Nth reference cycle (R100): with a span count of 16 or more the sensor oscillator starts, and the Span Counter keeps
its value. -/
def State.endReference (s : State) (cur : Current) : State :=
  if Config.minSpanCount ≤ s.converter.spanCounter.toNat then
    { s with converter := { state := .sense cur, cycleCounter := 0, spanCounter := s.converter.spanCounter, wave := .low } }
  else s.localError cur .spanShort

/-- The job a finished sensing phase forms (R84, R102). -/
def localJob (cur : Current) (m : Word) : Job :=
  { channel := cur.channel, m := m, n := cur.presetN, round := cur.round, origin := .localEngine }

/-- The formed job is offered to the local input: it enters an empty input, or the converter waits with it in
RATIO_WAIT (R104). -/
def State.offerLocal (s : State) (cur : Current) (j : Job) : State :=
  if s.ratio.localInput = none then { s.arrive .localEngine j with converter := s.converterHandedOff }
  else { s with converter := { state := .ratioWait cur j, cycleCounter := 0, spanCounter := 0, wave := .low } }

/-- The end of the sensing phase (R102): the Cycle Counter holds the sensor count M. -/
def State.endSensing (s : State) (cur : Current) : State :=
  if s.converter.cycleCounter = 0 then s.localError cur .noSignal
  else s.offerLocal cur (localJob cur s.converter.cycleCounter)

/-! ## Counting -/

/-- A cycle of the running oscillator increases the Cycle Counter by 1. Passing 65535 ends the reference phase (R100), and
in SENSE the conversion with OVER_RANGE (R103). -/
def State.oscillatorCycle (s : State) : State :=
  match s.converter.state with
  | .ref cur =>
    if s.converter.cycleCounter = 0xFFFF then s.endReference cur
    else { s with converter := { s.converter with cycleCounter := s.converter.cycleCounter + 1 } }
  | .sense cur =>
    if s.converter.cycleCounter = 0xFFFF then s.localError cur .overRange
    else { s with converter := { s.converter with cycleCounter := s.converter.cycleCounter + 1 } }
  | .idle => s
  | .held => s
  | .ratioWait _ _ => s

/-- A half cycle of the running oscillator: OSCMON changes level, and with its return to low a full cycle has gone by and
is counted (R96). While no oscillator runs there is no half cycle. -/
def State.halfCycle (s : State) : State :=
  if s.converter.state.counting then
    match s.converter.wave with
    | .low => { s with converter := { s.converter with wave := .high } }
    | .high => { s with converter := { s.converter with wave := .low } }.oscillatorCycle
  else s

/-- A period of the current conversion's span clock: in REF the Span Counter counts up, and passing 65535 ends the
conversion with SPAN_OVERFLOW (R101); in SENSE it counts down, and reaching 0 ends the phase (R102). -/
def State.spanPeriod (s : State) : State :=
  match s.converter.state with
  | .ref cur =>
    if s.converter.spanCounter = 0xFFFF then s.localError cur .spanOverflow
    else { s with converter := { s.converter with spanCounter := s.converter.spanCounter + 1 } }
  | .sense cur =>
    if s.converter.spanCounter = 1 then s.endSensing cur
    else { s with converter := { s.converter with spanCounter := s.converter.spanCounter - 1 } }
  | .idle => s
  | .held => s
  | .ratioWait _ _ => s

/-- Whether a period of a span clock ends with the FAST period that brings a tick's count to `k`: every one of FAST, and
every fourth of SLOW (R97). -/
def SpanClock.endsAt (k : Nat) : SpanClock → Bool
  | .fast => true
  | .slow => decide (k % Config.fastPeriodsPerSlow = 0)

/-- Whether the conversion being counted has its span clock end a period there. -/
def ConverterState.periodEndsAt (k : Nat) : ConverterState → Bool
  | .ref cur => cur.spanClock.endsAt k
  | .sense cur => cur.spanClock.endsAt k
  | .idle => false
  | .held => false
  | .ratioWait _ _ => false

/-- One more FAST period of the tick, and with every fourth one a cycle of the crystal (R97, R143). -/
def Timebase.countPeriod (t : Timebase) : Timebase :=
  let k := t.subTick + 1
  { t with
    subTick := k
    crystalCycles := if k.toNat % Config.fastPeriodsPerSlow = 0 then t.crystalCycles + 1 else t.crystalCycles }

/-- The clocks run and the tick has a period left to end. -/
def State.periodLeft (s : State) : Bool := s.ticks && decide (s.timebase.subTick.toNat < Config.fastPeriodsPerTick)

/-- The end of a FAST period. A tick has 128 of them, so no further one ends before the tick is taken. -/
def State.fastPeriod (s : State) : State :=
  if s.periodLeft then
    let s1 := { s with timebase := s.timebase.countPeriod }
    if s.converter.state.periodEndsAt s1.timebase.subTick.toNat then s1.spanPeriod else s1
  else s

/-- One edge. -/
def State.edge (s : State) : CountEdge → State
  | .halfCycle => s.halfCycle
  | .fastPeriod => s.fastPeriod

/-- Edges in their order. -/
def State.edges (s : State) (l : List CountEdge) : State := l.foldl State.edge s

/-- The periods that the present tick still lacks. -/
def State.finishPeriods (s : State) : State :=
  s.edges (List.replicate (Config.fastPeriodsPerTick - s.timebase.subTick.toNat) .fastPeriod)

/-! ## The phase ends as commands -/

/-- The converter is in REF. -/
def ConverterState.inRef : ConverterState → Bool
  | .ref _ => true
  | .idle => false
  | .held => false
  | .sense _ => false
  | .ratioWait _ _ => false

/-- The converter is in SENSE. -/
def ConverterState.inSense : ConverterState → Bool
  | .sense _ => true
  | .idle => false
  | .held => false
  | .ref _ => false
  | .ratioWait _ _ => false

/-- The next half cycle makes the Cycle Counter pass 65535. -/
def Converter.cycleFull (x : Converter) : Bool := decide (x.cycleCounter = 0xFFFF) && decide (x.wave = .high)

/-- The next FAST period ends a period of the current conversion's span clock. -/
def State.periodNext (s : State) : Bool :=
  s.periodLeft && s.converter.state.periodEndsAt (s.timebase.subTick.toNat + 1)

/-- The half cycle that completes the Nth reference cycle (R100). -/
def State.referencePhaseEnd (s : State) : State :=
  if s.converter.state.inRef && s.converter.cycleFull then s.halfCycle else s

/-- The 65536th span period of REF (R101). -/
def State.spanOverflow (s : State) : State :=
  if s.converter.state.inRef && decide (s.converter.spanCounter = 0xFFFF) && s.periodNext then s.fastPeriod else s

/-- The span period that brings the Span Counter to 0 in SENSE (R102). -/
def State.sensingPhaseEnd (s : State) : State :=
  if s.converter.state.inSense && decide (s.converter.spanCounter = 1) && s.periodNext then s.fastPeriod else s

/-- The half cycle that completes the 65536th sensor cycle (R103). -/
def State.cycleCounterOverflow (s : State) : State :=
  if s.converter.state.inSense && s.converter.cycleFull then s.halfCycle else s

/-- LOCAL_TAKE (R99). -/
def execLocalTake (s : State) : StepOutcome := .next s.localTake

/-- REFERENCE_PHASE_END (R100), with the edges before it. -/
def execReferencePhaseEnd (edges : List CountEdge) (s : State) : StepOutcome := .next (s.edges edges).referencePhaseEnd

/-- SPAN_OVERFLOW (R101). -/
def execSpanOverflow (s : State) : StepOutcome := .next s.spanOverflow

/-- SENSING_PHASE_END (R102), with the edges before it. -/
def execSensingPhaseEnd (edges : List CountEdge) (s : State) : StepOutcome := .next (s.edges edges).sensingPhaseEnd

/-- CYCLE_COUNTER_OVERFLOW (R103). -/
def execCycleCounterOverflow (s : State) : StepOutcome := .next s.cycleCounterOverflow

end Sys2Proof.Machine
end

