-- ==== Sys2Proof/Machine/Remote.lean ====
section
/-! DEFINITION. The Remote Engine's rows (08_remote_sensor_transactions.md): what the outcome of a TRIGGER or of a READ
does to its row (R135, R138 to R140), and the read expiry (R136). -/

namespace Sys2Proof.Machine

/-- The outcomes of a transaction (R128). -/
inductive BusOutcome where
  | done (bytes : List Byte)
  | addressNack
  | dataNack
  | lost
  | holdTimeout
  | stuck
  deriving DecidableEq, Repr

/-- The index of the command register and the byte that starts a measurement (8.1, R134). -/
def triggerBytes : List Byte := [0x10, 0x01]

/-- The index of the result block (8.1, R137). -/
def readBytes : List Byte := [0x20]

/-- The length of the result block (8.1, R137). -/
def resultBlockLength : Nat := 5

/-- A remote conversion ends with an error (R140): its row becomes FREE, and the status with value 0 is handed over. -/
def State.remoteError (s : State) (r : RowNo) (status : Status) : State :=
  (s.setRow r Row.free).handOff (s.row r).channel { value := 0, status := status }

/-- A row settles until a tick so far ahead: its read due is set and its deadline placed (R135, R138). -/
def State.settleRow (s : State) (r : RowNo) (ahead : Stamp) (polls : BitVec 4) : State :=
  let due := s.now + ahead
  (s.setRow r { s.row r with state := .settling, readDue := due, polls := polls }).placeDeadline (.readDue r) due

/-- What the outcome of its TRIGGER does to a row (R135). -/
def State.triggerOutcome (s : State) (r : RowNo) : BusOutcome → State
  | .done _ => s.settleRow r ((s.row r).settle.setWidth 32) (s.row r).polls
  | .addressNack => s.remoteError r .remoteAbsent
  | .dataNack => s.remoteError r .remoteRefused
  | .lost => s.remoteError r .busLost
  | .holdTimeout => s.remoteError r .busHoldTimeout
  | .stuck => s.remoteError r .busStuck

/-- A row whose counts are ready offers its job to the remote input: it enters an empty input and the row becomes
FREE, or the row keeps its counts and joins the tail of the wait order (R139). -/
def State.offerRemote (s : State) (r : RowNo) (m n : Word) : State :=
  let x := { s.row r with m := m, n := n }
  if s.ratio.remoteInput = none then (s.arrive .remoteEngine (rowJob x)).setRow r Row.free
  else
    let s1 := s.setRow r { x with state := .ratioWait }
    { s1 with remote := { s1.remote with waitOrder := s1.remote.waitOrder ++ [r] } }

/-- What a result block does to the row that read it (R138, 8.1). A READ that is done hands over five bytes (R128);
the last line is for lists of another length, which none hands over (log 20). -/
def State.resultBlock (s : State) (r : RowNo) : List Byte → State
  | [state, mHigh, mLow, nHigh, nLow] =>
    if state = 0x00 then s.offerRemote r (mHigh ++ mLow) (nHigh ++ nLow)
    else if state = 0x01 then
      if (s.row r).polls.toNat < (s.row r).pollLimit.toNat then s.settleRow r Config.pollTicks ((s.row r).polls + 1)
      else s.remoteError r .remoteTimeout
    else s.remoteError r .remoteFault
  | _ => s.remoteError r .remoteFault

/-- What the outcome of its READ does to a row (R138). -/
def State.readOutcome (s : State) (r : RowNo) : BusOutcome → State
  | .done bytes => s.resultBlock r bytes
  | .addressNack => s.remoteError r .remoteAbsent
  | .dataNack => s.remoteError r .remoteRefused
  | .lost => s.remoteError r .busLost
  | .holdTimeout => s.remoteError r .busHoldTimeout
  | .stuck => s.remoteError r .busStuck

/-- The row whose transaction the controller carries: the one in TRIGGERING or READING (R132). -/
def State.activeRow (s : State) : Option RowNo :=
  (List.finRange 4).find? fun r => decide ((s.row r).state = .triggering ∨ (s.row r).state = .reading)

/-- The Remote Engine takes the outcome of the transaction carried (R128, R135, R138). -/
def State.takeOutcome (s : State) (o : BusOutcome) : State :=
  match s.activeRow with
  | none => s
  | some r => if (s.row r).state = .triggering then s.triggerOutcome r o else s.readOutcome r o

/-- The read expiry of a SETTLING row: it becomes READ_DUE and joins the tail of the read order (R136). -/
def State.takeReadExpiry (s : State) (r : RowNo) : State :=
  if s.expiryDue (.readDue r) = true ∧ (s.row r).state = .settling then
    let s1 := (s.dropDeadline (.readDue r)).setRow r { s.row r with state := .readDue }
    { s1 with remote := { s1.remote with readOrder := s1.remote.readOrder ++ [r] } }
  else s

/-- READ_EXPIRY (R136). -/
def execReadExpiry (r : RowNo) (s : State) : StepOutcome := .next (s.takeReadExpiry r)

end Sys2Proof.Machine
end

