-- ==== Sys2Proof/Machine/Bus.lean ====
section
/-! DEFINITION. The Expansion Bus Controller (07_the_expansion_bus_controller.md): bus tracking (R113, R114), the bit
timer (R115), the clock hold (R116), attempts (R118 to R125), loss and backoff (R126, R127), outcomes (R128), and the
Remote Engine's choice of bus work, which begins a transaction (R133, R134, R137). -/

namespace Sys2Proof.Machine

/-! ## The controller's state and its bit timer -/

/-- The bit timer in a half of a clocked bit (R115, R116). -/
def halfTimer (rate : BusRate) : Half → BitTimer
  | .low => .running rate.reload
  | .rising => .suspended
  | .high => .running rate.reload

/-- The bit timer on entering a controller state: the timer column of 7.6, with the reloads of R115 to R117. -/
def timerIn (rate : BusRate) : BusControl → BitTimer
  | .idle => .stopped
  | .waitFree => .stopped
  | .start => .running rate.reload
  | .sendByte _ _ h => halfTimer rate h
  | .ackIn _ h _ => halfTimer rate h
  | .recvByte _ h _ => halfTimer rate h
  | .ackOut h => halfTimer rate h
  | .restart (.clocked h) => halfTimer rate h
  | .restart .pulled => .running rate.reload
  | .stop (.clocked h) _ => halfTimer rate h
  | .stop .released _ => .running rate.reload
  | .stop .overdue _ => .stopped
  | .backoff _ => .running rate.reload

/-- The controller enters a state, and its bit timer with it. -/
def BusController.enter (b : BusController) (c : BusControl) : BusController :=
  { b with control := c, timer := timerIn b.rate c }

/-- The controller enters a state. -/
def State.enterBus (s : State) (c : BusControl) : State := { s with bus := s.bus.enter c }

/-- An attempt is being carried: one of START, SEND_BYTE, ACK, RECV_BYTE, RESTART and STOP (R126, last row). -/
def BusControl.inAttempt : BusControl → Bool
  | .idle => false
  | .waitFree => false
  | .backoff _ => false
  | .start => true
  | .sendByte _ _ _ => true
  | .ackIn _ _ _ => true
  | .recvByte _ _ _ => true
  | .ackOut _ => true
  | .restart _ => true
  | .stop _ _ => true

/-- XCL has been released and not yet been sampled high: the clock hold (R116). -/
def BusControl.rising : BusControl → Bool
  | .sendByte _ _ .rising => true
  | .ackIn _ .rising _ => true
  | .recvByte _ .rising _ => true
  | .ackOut .rising => true
  | .restart (.clocked .rising) => true
  | .stop (.clocked .rising) _ => true
  | _ => false

/-! ## Bus tracking -/

/-- A low on a line between two ticks starts the idle check's count again (R114). -/
def State.lineWentLow (s : State) : State := { s with bus := { s.bus with linesHigh := false } }

/-- A START condition of any device: the bus is BUSY (R113). XDA has gone low, so the idle check counts again (R114). -/
def State.sawStart (s : State) : State := { s with bus := { s.bus with busState := .busy, linesHigh := false } }

/-- A STOP condition of any device: the bus is FREE (R113), and the idle check ends (R114). -/
def State.sawStop (s : State) : State :=
  { s with bus := { s.bus with busState := .free, idleCheck := false, linesHigh := false } }

/-- The idle check at a tick (R114): lines high without a break since the previous tick make the bus FREE and end the
check; otherwise the count of uninterrupted high time begins at this tick if the lines are high. -/
def BusController.idleTick (b : BusController) (linesHigh : Bool) : BusController :=
  if b.idleCheck then
    if b.linesHigh && linesHigh then { b with busState := .free, idleCheck := false, linesHigh := false }
    else { b with linesHigh := linesHigh }
  else b

/-! ## Outcomes and losses -/

/-- A transaction ends (R128): the controller is IDLE with attempt count 0, the bit timer stopped and no deadline, keeps
no record of it, and hands the outcome to the Remote Engine. -/
def State.endTransaction (s : State) (o : BusOutcome) : State :=
  let s1 := (s.dropDeadline .holdLimit).dropDeadline .busWait
  let s2 := { s1 with bus := { s1.bus.enter .idle with attempt := 0, transaction := none, received := [] } }
  s2.takeOutcome o

/-- Place the bus wait limit for the wait that begins (R119). -/
def State.placeBusWait (s : State) : State := s.placeDeadline .busWait (s.now + Config.busWaitTicks)

/-- A loss of arbitration (R126): hold limit dropped, received bytes discarded; BACKOFF for the next attempt with its own
wait limit, or LOST after the fourth. -/
def State.lose (s : State) : State :=
  if s.bus.attempt.val < Config.maxAttempts then
    let s1 := s.dropDeadline .holdLimit
    let b := { s1.bus with attempt := Fin.ofNat 5 (s1.bus.attempt.val + 1), received := [] }
    { s1 with bus := b.enter (.backoff false) }.placeBusWait
  else s.endTransaction .lost

/-! ## Beginning an attempt -/

/-- The START of an attempt begins, with the level of XCL sampled (R120): low is a loss; otherwise XDA is pulled low, the
bus tracking sees the START, and the wait limit is dropped (R119). -/
def State.beginStart (s : State) (xcl : Level) : State :=
  match xcl with
  | .low => s.lose
  | .high => ((s.dropDeadline .busWait).sawStart).enterBus .start

/-- The controller enters WAIT_FREE; on a FREE bus the START begins at once (R118, R119). -/
def State.enterWaitFree (s : State) (xcl : Level) : State :=
  let s1 := s.enterBus .waitFree
  if s1.bus.busState = .free then s1.beginStart xcl else s1

/-- The controller accepts a transaction (R118): attempt 1, the wait limit placed, WAIT_FREE. -/
def State.acceptTransaction (s : State) (t : Transaction) (xcl : Level) : State :=
  let s1 := { s with bus := { s.bus with attempt := 1, transaction := some t, received := [] } }
  s1.placeBusWait.enterWaitFree xcl

/-- The START of an attempt on a bus that has become FREE (R119, R120). -/
def State.attemptStart (s : State) (xcl : Level) : State :=
  if s.bus.control = .waitFree ∧ s.bus.busState = .free then s.beginStart xcl else s

/-- The end of BACKOFF's bit time (R127). -/
def State.backoffEnd (s : State) (xcl : Level) : State :=
  match s.bus.control with
  | .backoff _ => s.enterWaitFree xcl
  | _ => s

/-! ## Clocking bits -/

/-- The controller releases XCL: the bit timer is suspended and the hold limit placed (R116). -/
def State.releaseXcl (s : State) (c : BusControl) : State :=
  (s.enterBus c).placeDeadline .holdLimit (s.now + Config.holdLimitTicks)

/-- The write part is done: RESTART when there is something to read, otherwise STOP (R122). -/
def afterWritePart (t : Transaction) : BusControl :=
  if 0 < t.readCount then .restart (.clocked .low) else .stop (.clocked .low) .done

/-- After a target's acknowledge of low: the next byte of the write part, or what follows it, or the first byte read
(R122). -/
def afterAck (t : Transaction) : SentByte → BusControl
  | .addressWrite => if 0 < t.writePart.length then .sendByte (.writeByte 0) 0 .low else afterWritePart t
  | .writeByte i => if i + 1 < t.writePart.length then .sendByte (.writeByte (i + 1)) 0 .low else afterWritePart t
  | .addressRead => .recvByte 0 .low 0

/-- After a target's acknowledge of high: STOP with the attempt's result (R122). -/
def afterNack : SentByte → BusControl
  | .addressWrite => .stop (.clocked .low) .addressNack
  | .addressRead => .stop (.clocked .low) .addressNack
  | .writeByte _ => .stop (.clocked .low) .dataNack

/-- The high half of a clocked bit ends: XCL is pulled low and the next bit, byte or phase begins (R121 to R123); in
STOP, XDA is released (R125). -/
def State.endHighHalf (s : State) : State :=
  match s.bus.control with
  | .sendByte y i .high =>
    if i.val = 7 then s.enterBus (.ackIn y .low .high) else s.enterBus (.sendByte y (Fin.ofNat 8 (i.val + 1)) .low)
  | .ackIn y .high .low => s.enterBus (afterAck s.bus.carried y)
  | .ackIn y .high .high => s.enterBus (afterNack y)
  | .recvByte i .high bits =>
    if i.val = 7 then { s with bus := { s.bus with received := s.bus.received ++ [bits] } }.enterBus (.ackOut .low)
    else s.enterBus (.recvByte (Fin.ofNat 8 (i.val + 1)) .low bits)
  | .ackOut .high =>
    if s.bus.lastReceived then s.enterBus (.stop (.clocked .low) .done) else s.enterBus (.recvByte 0 .low 0)
  | .stop (.clocked .high) r => s.enterBus (.stop .released r)
  | _ => s

/-- The bit timer reaches 0 (R115): a low half ends by releasing XCL, a high half as `endHighHalf` says, START by pulling
XCL low and sending the address byte (R120), RESTART by the repeated START and then the second address byte (R124); in STOP
a half-bit period past the release of XDA goes by (R125), in BACKOFF the first of its two (R127). -/
def State.halfBitPeriodEnd (s : State) : State :=
  match s.bus.control with
  | .start => s.enterBus (.sendByte .addressWrite 0 .low)
  | .sendByte y i .low => s.releaseXcl (.sendByte y i .rising)
  | .ackIn y .low l => s.releaseXcl (.ackIn y .rising l)
  | .recvByte i .low bits => s.releaseXcl (.recvByte i .rising bits)
  | .ackOut .low => s.releaseXcl (.ackOut .rising)
  | .restart (.clocked .low) => s.releaseXcl (.restart (.clocked .rising))
  | .stop (.clocked .low) r => s.releaseXcl (.stop (.clocked .rising) r)
  | .restart (.clocked .high) => s.sawStart.enterBus (.restart .pulled)
  | .restart .pulled => s.enterBus (.sendByte .addressRead 0 .low)
  | .stop .released r => s.enterBus (.stop .overdue r)
  | .backoff false => s.enterBus (.backoff true)
  | _ => s.endHighHalf

/-- XCL has been sampled high (R116): the hold limit is dropped and the high half timed. XDA at the rise is the bit, the
target's acknowledge, or a loss: low against a bit sent as 1, against the controller's high acknowledge, or in a RESTART
(R121 to R124). -/
def State.xclSampledHigh (s : State) (xda : Level) : State :=
  let s1 := s.dropDeadline .holdLimit
  match s.bus.control with
  | .sendByte y i .rising =>
    if sentBit s.bus.carried y i = true ∧ xda = .low then s1.lose else s1.enterBus (.sendByte y i .high)
  | .ackIn y .rising _ => s1.enterBus (.ackIn y .high xda)
  | .recvByte i .rising bits => s1.enterBus (.recvByte i .high ((bits <<< 1) ||| (levelBit xda).setWidth 8))
  | .ackOut .rising => if s.bus.lastReceived = true ∧ xda = .low then s1.lose else s1.enterBus (.ackOut .high)
  | .restart (.clocked .rising) =>
    match xda with
    | .low => s1.lose
    | .high => s1.enterBus (.restart (.clocked .high))
  | .stop (.clocked .rising) r => s1.enterBus (.stop (.clocked .high) r)
  | _ => s

/-- Another device pulls XCL low: the high half of a bit, of an acknowledge or of STOP ends at once (R117); in START and
after the repeated START the controller goes on in step (R120, R124); in RESTART before it, this is a loss (R124). In STOP
after XDA has been released the spec gives no effect: DESIGN CHOICE, the place and the timer stand (log 26). -/
def State.xclPulledLow (s : State) : State :=
  let s1 := s.lineWentLow
  match s.bus.control with
  | .start => s1.enterBus (.sendByte .addressWrite 0 .low)
  | .restart (.clocked .high) => s1.lose
  | .restart .pulled => s1.enterBus (.sendByte .addressRead 0 .low)
  | _ => s1.endHighHalf

/-! ## Conditions and losses -/

/-- Another device's condition can be sampled in the attempt: a condition is a change of XDA while XCL is high (R112), so the
controller neither pulls XCL low nor waits for it to rise (R126), and does not hold XDA low itself (R121). In START, which
R126 names, XDA is its own (log 11). -/
def BusController.exposed (b : BusController) : Bool :=
  b.control.inAttempt && !b.xclPulled && !b.control.rising && (decide (b.control = .start) || !b.xdaPulled)

/-- A START condition of another device (R113). In an attempt it is a loss (R126), except in START, where both
controllers have pulled XDA low and both go on (R119; log 11). Where none can be sampled it does not occur (log 1). -/
def State.foreignStart (s : State) : State :=
  if s.bus.control.inAttempt = false ∨ s.bus.control = .start then s.sawStart
  else if s.bus.exposed then s.sawStart.lose
  else s

/-- A STOP condition of another device (R113). In an attempt it is a loss (R126). Where none can be sampled it does not
occur (log 1). -/
def State.foreignStop (s : State) : State :=
  if s.bus.control.inAttempt = false then s.sawStop
  else if s.bus.exposed then s.sawStop.lose
  else s

/-- The controller is where the cause can be found: the place column of R126. -/
def BusController.canLose (b : BusController) : LossCause → Bool
  | .startXclLow => decide (b.control = .waitFree) && decide (b.busState = .free)
  | .sendXdaLow =>
    match b.control with
    | .sendByte y i .high => sentBit b.carried y i
    | _ => false
  | .ackXdaLow => decide (b.control = .ackOut .high) && b.lastReceived
  | .restartXdaLow => decide (b.control = .restart (.clocked .rising))
  | .restartXclLow => decide (b.control = .restart (.clocked .high))
  | .stopXdaLow =>
    match b.control with
    | .stop .overdue _ => true
    | _ => false
  | .foreignStart => b.exposed
  | .foreignStop => b.exposed

/-- The line event of a loss that is a foreign condition acts on the bus state too (R126). -/
def State.seeCause (s : State) : LossCause → State
  | .foreignStart => s.sawStart
  | .foreignStop => s.sawStop
  | .startXclLow => s
  | .sendXdaLow => s
  | .ackXdaLow => s
  | .restartXdaLow => s
  | .restartXclLow => s
  | .stopXdaLow => s

/-- A loss of arbitration for a cause that can be found where the controller is (R126). -/
def State.lossOfArbitration (s : State) (cause : LossCause) : State :=
  if s.bus.canLose cause then (s.seeCause cause).lose else s

/-- The outcome an attempt's result gives at its STOP (R125). -/
def stopOutcome (b : BusController) : AttemptResult → BusOutcome
  | .done => .done b.received
  | .addressNack => .addressNack
  | .dataNack => .dataNack

/-- XDA rises with XCL high after the controller's release (R125): the bus is FREE and the outcome is handed over. From
the high half of STOP, the release and the rise are this one event. -/
def State.stopCompletes (s : State) : State :=
  match s.bus.control with
  | .stop (.clocked .high) r => s.sawStop.endTransaction (stopOutcome s.bus r)
  | .stop .released r => s.sawStop.endTransaction (stopOutcome s.bus r)
  | .stop .overdue r => s.sawStop.endTransaction (stopOutcome s.bus r)
  | _ => s

/-! ## The controller's deadlines -/

/-- The hold limit expires while XCL is still low (R116): HOLD_TIMEOUT. -/
def State.takeHoldExpiry (s : State) : State :=
  if s.expiryDue .holdLimit = true ∧ s.bus.control.rising = true then s.endTransaction .holdTimeout else s

/-- The bus wait limit expires in WAIT_FREE (R119): STUCK. On a FREE bus the START comes first (log 12). -/
def State.takeBusWaitExpiry (s : State) : State :=
  if s.expiryDue .busWait = true ∧ s.bus.control = .waitFree ∧ s.bus.busState = .busy then s.endTransaction .stuck else s

/-! ## The Remote Engine's choice (R133) -/

/-- The lowest-numbered FREE row (R133). -/
def State.freeRow (s : State) : Option RowNo :=
  (List.finRange 4).find? fun r => decide ((s.row r).state = .free)

/-- The choice of a trigger (R49, R133, R134): the take of the remote entry nearest the head whose channel is not
reserved, into the lowest FREE row, and its TRIGGER begun. -/
def State.chooseTrigger (s : State) (xcl : Level) : State :=
  if s.bus.control = .idle ∧ s.remote.readOrder = [] ∧ s.inFlightOf .remoteEngine < Config.maxRemoteInFlight then
    match s.freeRow, s.takeable false with
    | some r, some e =>
      match (s.channel e.channel).fields with
      | .remoteKind address settle limit =>
        let x : Row := { Row.free with
          state := .triggering, channel := e.channel, busAddress := address, settle := settle, pollLimit := limit
          round := (s.channel e.channel).round }
        ((s.startConversion .remoteEngine e).setRow r x).acceptTransaction
          { target := address, writePart := triggerBytes, readCount := 0 } xcl
      | .localKind _ _ _ => s
    | _, _ => s
  else s

/-- The choice of a read (R133, R137): the row at the head of the read order becomes READING and its READ begins. -/
def State.chooseRead (s : State) (xcl : Level) : State :=
  if s.bus.control = .idle then
    match s.remote.readOrder with
    | [] => s
    | r :: rest =>
      let s1 := s.setRow r { s.row r with state := .reading }
      { s1 with remote := { s1.remote with readOrder := rest } }.acceptTransaction
        { target := (s.row r).busAddress, writePart := readBytes, readCount := resultBlockLength } xcl
  else s

/-! ## The commands -/

/-- TRIGGER (R134). -/
def execTrigger (xcl : Level) (s : State) : StepOutcome := .next (s.chooseTrigger xcl)

/-- READ (R137). -/
def execRead (xcl : Level) (s : State) : StepOutcome := .next (s.chooseRead xcl)

/-- ATTEMPT_START (R120). -/
def execAttemptStart (xcl : Level) (s : State) : StepOutcome := .next (s.attemptStart xcl)

/-- STOP (R125). -/
def execStop (s : State) : StepOutcome := .next s.stopCompletes

/-- LOSS_OF_ARBITRATION (R126). -/
def execLossOfArbitration (cause : LossCause) (s : State) : StepOutcome := .next (s.lossOfArbitration cause)

/-- BACKOFF_END (R127). -/
def execBackoffEnd (xcl : Level) (s : State) : StepOutcome := .next (s.backoffEnd xcl)

/-- START_CONDITION (R113). -/
def execStartCondition (s : State) : StepOutcome := .next s.foreignStart

/-- STOP_CONDITION (R113). -/
def execStopCondition (s : State) : StepOutcome := .next s.foreignStop

/-- HALF_BIT_PERIOD_END (R115). -/
def execHalfBitPeriodEnd (s : State) : StepOutcome := .next s.halfBitPeriodEnd

/-- XCL_SAMPLED_HIGH (R116). -/
def execXclSampledHigh (xda : Level) (s : State) : StepOutcome := .next (s.xclSampledHigh xda)

/-- XCL_PULLED_LOW_BY_ANOTHER_DEVICE (R117). -/
def execXclPulledLowByAnotherDevice (s : State) : StepOutcome := .next s.xclPulledLow

/-- BUS_LINE_LOW (R114). -/
def execBusLineLow (s : State) : StepOutcome := .next s.lineWentLow

/-- HOLD_LIMIT_EXPIRY (R116). -/
def execHoldLimitExpiry (s : State) : StepOutcome := .next s.takeHoldExpiry

/-- BUS_WAIT_LIMIT_EXPIRY (R119). -/
def execBusWaitLimitExpiry (s : State) : StepOutcome := .next s.takeBusWaitExpiry

end Sys2Proof.Machine
end

