-- ==== Sys2Proof/Machine/Timebase.lean ====
section
/-! DEFINITION. The Timebase's events (09_the_timebase.md): ENTER_RUNNING (R143), the claim, due and quiet window expiries
(R9, R29, R59), and TICK (R144) with the periods of its span clocks (R97), its deliveries (R146), its taps (R147) and the idle check (R114). -/

namespace Sys2Proof.Machine

/-! ## Expiries of the Channel Table, the Request Tables and the Scheduler -/

/-- The expiry of a claim (R9): the claim ends and CLAIM_LAPSED of its holder's port is set. -/
def State.takeClaimExpiry (s : State) (c : Channel) : State :=
  if s.expiryDue (.claim c) then
    match (s.channel c).holder with
    | some p => (s.endClaim c).raise p .claimLapsed
    | none => s.endClaim c
  else s

/-- The due expiry of a WATCH slot (R29): next due advances by the period and a new deadline is placed; a DORMANT slot
requests a conversion, a WAITING slot counts a missed due. -/
def State.takeDueExpiry (s : State) (p : Port) (i : SlotNo) : State :=
  if s.expiryDue (.watchDue p i) then
    let x := s.slot p i
    let due := x.nextDue + x.period.setWidth 32
    match x.state with
    | .dormant =>
      ((s.setSlot p i { x with nextDue := due }).placeDeadline (.watchDue p i) due).requestConversion p i
    | .waiting =>
      (s.setSlot p i { x with nextDue := due, missed := satInc x.missed }).placeDeadline (.watchDue p i) due
    | .free => s
    | .finished => s
  else s

/-- The expiry of a port's quiet window (R59): the window is removed and QUIET_LAPSED of the port is set. -/
def State.takeQuietExpiry (s : State) (p : Port) : State :=
  if s.expiryDue (.quietEnd p) then (s.closeQuiet p).raise p .quietLapsed else s

/-! ## The tick -/

/-- The owner of an item takes its expiry (9.4, the last column of the table). -/
def State.takeExpiry (s : State) : DeadlineItem → State
  | .watchDue p i => s.takeDueExpiry p i
  | .claim c => s.takeClaimExpiry c
  | .quietEnd p => s.takeQuietExpiry p
  | .readDue r => s.takeReadExpiry r
  | .holdLimit => s.takeHoldExpiry
  | .busWait => s.takeBusWaitExpiry

/-- Expiries of the present tick that no command has taken are taken before the next tick, in the order of their delivery:
an expiry is taken in its own tick (R146; log 4). -/
def State.takeOutstanding (s : State) : State := s.timebase.delivered.foldl State.takeExpiry s

/-- The counter increases by 1, a new tick's periods are counted from 0, and the deadlines equal to the new value are
delivered (R144, R146). -/
def Timebase.advance (t : Timebase) : Timebase :=
  let n := t.tick + 1
  { t with
    tick := n
    subTick := 0
    deadlines := t.deadlines.filter (fun d => decide (d.stamp ≠ n))
    delivered := t.delivered ++ (t.deadlines.filter (fun d => decide (d.stamp = n))).map (·.item) }

/-- The TAP flag of a port whose tap tick it is (R147). -/
def State.tap (s : State) (p : Port) : State :=
  if tapFires (tapSelect (s.port p).control) s.now then s.raise p .tap else s

/-- The tick itself: counter and deliveries, taps, idle check. -/
def State.advanceTick (s : State) (linesHigh : Bool) : State :=
  let s1 := ({ s with timebase := s.timebase.advance }.tap .a).tap .b
  { s1 with bus := s1.bus.idleTick linesHigh }

/-- A tick (R144). The expiries of the tick that ends come first, then its edges, with every period of the span clocks
that the tick still lacks: 32 SLOW and 128 FAST periods make a tick (R97; logs 4, 5). -/
def State.tickEvent (s : State) (x : TickInput) : State :=
  if s.ticks then ((s.takeOutstanding.edges x.edges).finishPeriods).advanceTick x.linesHigh else s

/-- The 256th crystal cycle after the reset (R143): RUNNING. No cycle is counted while RESET_N is low. -/
def State.startRunning (s : State) : State :=
  if s.timebase.startState = .starting ∧ s.resetN = .high then
    { s with timebase := { s.timebase with startState := .running, crystalCycles := Config.startupCycles } }
  else s

/-! ## The commands -/

/-- ENTER_RUNNING (R143). -/
def execEnterRunning (s : State) : StepOutcome := .next s.startRunning

/-- TICK (R144), with whether both bus lines are high at it (R114) and the edges since the last counting (R97). -/
def execTick (input : TickInput) (s : State) : StepOutcome := .next (s.tickEvent input)

/-- CLAIM_EXPIRY (R9). -/
def execClaimExpiry (c : Channel) (s : State) : StepOutcome := .next (s.takeClaimExpiry c)

/-- DUE_EXPIRY (R29). -/
def execDueExpiry (p : Port) (i : SlotNo) (s : State) : StepOutcome := .next (s.takeDueExpiry p i)

/-- QUIET_WINDOW_EXPIRY (R59). -/
def execQuietWindowExpiry (p : Port) (s : State) : StepOutcome := .next (s.takeQuietExpiry p)

end Sys2Proof.Machine
end

