-- ==== Sys2Proof/Machine/Dispatch.lean ====
section
/-! DEFINITION. One arm per command: the direct call of its meaning. -/

namespace Sys2Proof.Machine

/-- The effect of a command on everything but the queue. -/
def exec (i : Instr) (s : State) : Host.Outcome State Fault Refusal :=
  match i with
  | .convert c => Sys2Proof.Machine.execConvert c s
  | .watch c => Sys2Proof.Machine.execWatch c s
  | .cancel c => Sys2Proof.Machine.execCancel c s
  | .claim c => Sys2Proof.Machine.execClaim c s
  | .release c => Sys2Proof.Machine.execRelease c s
  | .configure c => Sys2Proof.Machine.execConfigure c s
  | .quiet c => Sys2Proof.Machine.execQuiet c s
  | .commitBadKind c word => Sys2Proof.Machine.execCommitBadKind c word s
  | .acknowledgement c version => Sys2Proof.Machine.execAcknowledgement c version s
  | .controlWrite p selected word => Sys2Proof.Machine.execControlWrite p selected word s
  | .resetAction p selected word => Sys2Proof.Machine.execResetAction p selected word s
  | .pointerWrite p selected word => Sys2Proof.Machine.execPointerWrite p selected word s
  | .stagingWrite c word => Sys2Proof.Machine.execStagingWrite c word s
  | .snapshot p selected access => Sys2Proof.Machine.execSnapshot p selected access s
  | .eventRecordRead c => Sys2Proof.Machine.execEventRecordRead c s
  | .earlyStrobe p selected access isRead => Sys2Proof.Machine.execEarlyStrobe p selected access isRead s
  | .portReset p => Sys2Proof.Machine.execPortReset p s
  | .portResetRelease p => Sys2Proof.Machine.execPortResetRelease p s
  | .deviceReset cause => Sys2Proof.Machine.execDeviceReset cause s
  | .enterRunning => Sys2Proof.Machine.execEnterRunning s
  | .tick input => Sys2Proof.Machine.execTick input s
  | .claimExpiry channel => Sys2Proof.Machine.execClaimExpiry channel s
  | .dueExpiry p slot => Sys2Proof.Machine.execDueExpiry p slot s
  | .quietWindowExpiry p => Sys2Proof.Machine.execQuietWindowExpiry p s
  | .readExpiry row => Sys2Proof.Machine.execReadExpiry row s
  | .holdLimitExpiry => Sys2Proof.Machine.execHoldLimitExpiry s
  | .busWaitLimitExpiry => Sys2Proof.Machine.execBusWaitLimitExpiry s
  | .localTake => Sys2Proof.Machine.execLocalTake s
  | .referencePhaseEnd edges => Sys2Proof.Machine.execReferencePhaseEnd edges s
  | .spanOverflow => Sys2Proof.Machine.execSpanOverflow s
  | .sensingPhaseEnd edges => Sys2Proof.Machine.execSensingPhaseEnd edges s
  | .cycleCounterOverflow => Sys2Proof.Machine.execCycleCounterOverflow s
  | .divisionEnd => Sys2Proof.Machine.execDivisionEnd s
  | .completion channel => Sys2Proof.Machine.execCompletion channel s
  | .trigger xcl => Sys2Proof.Machine.execTrigger xcl s
  | .read xcl => Sys2Proof.Machine.execRead xcl s
  | .attemptStart xcl => Sys2Proof.Machine.execAttemptStart xcl s
  | .stop => Sys2Proof.Machine.execStop s
  | .lossOfArbitration cause => Sys2Proof.Machine.execLossOfArbitration cause s
  | .backoffEnd xcl => Sys2Proof.Machine.execBackoffEnd xcl s
  | .startCondition => Sys2Proof.Machine.execStartCondition s
  | .stopCondition => Sys2Proof.Machine.execStopCondition s
  | .resetNRelease xrate => Sys2Proof.Machine.execResetNRelease xrate s
  | .halfBitPeriodEnd => Sys2Proof.Machine.execHalfBitPeriodEnd s
  | .xclSampledHigh xda => Sys2Proof.Machine.execXclSampledHigh xda s
  | .xclPulledLowByAnotherDevice => Sys2Proof.Machine.execXclPulledLowByAnotherDevice s
  | .busLineLow => Sys2Proof.Machine.execBusLineLow s

end Sys2Proof.Machine
end

