-- ==== Sys2Proof/Machine/Sensor.lean ====
section
/-! DEFINITION. A remote sensor built for the SH16 (R131, 8.1). It is a device of its own on the expansion bus, so it is no
part of `State`: it is what the outside is expected to answer to the bytes of a TRIGGER and of a READ. -/

namespace Sys2Proof.Machine

/-- The index of the sensor's command register (8.1). -/
def commandIndex : Byte := 0x10

/-- The index of the sensor's result block (8.1). -/
def resultIndex : Byte := 0x20

/-- A remote sensor: the index last written, whether a measurement is in progress, and the counts of the last finished
measurement. A data byte that is not 01h, and one at another index than the command register's, does nothing, and no fault
is reported: DESIGN CHOICE, R131 says nothing of them (log 27). -/
structure RemoteSensor where
  index : Byte
  measuring : Bool
  m : Word
  n : Word
  deriving DecidableEq, Repr

/-- A write of 01h to the command register starts a new measurement and abandons one in progress (R131). -/
def RemoteSensor.command (x : RemoteSensor) (data : Byte) : RemoteSensor :=
  if x.index = commandIndex ∧ data = 0x01 then { x with measuring := true } else x

/-- A write part: the index first, then data bytes (8.1). -/
def RemoteSensor.write (x : RemoteSensor) : List Byte → RemoteSensor
  | [] => x
  | index :: data => data.foldl RemoteSensor.command { x with index := index }

/-- The measurement in progress ends with its counts (R131). -/
def RemoteSensor.finish (x : RemoteSensor) (m n : Word) : RemoteSensor :=
  if x.measuring then { x with measuring := false, m := m, n := n } else x

/-- The state byte: 01h busy, 00h ready (8.1). -/
def RemoteSensor.stateByte (x : RemoteSensor) : Byte := if x.measuring then 0x01 else 0x00

/-- What the result block holds: state byte, then each count high byte first (8.1). While the sensor
is busy the spec gives the count bytes no value: DESIGN CHOICE, they go on reading the counts of the last finished
measurement (log 27). -/
def RemoteSensor.block (x : RemoteSensor) : List Byte :=
  [x.stateByte, x.m.extractLsb' 8 8, x.m.extractLsb' 0 8, x.n.extractLsb' 8 8, x.n.extractLsb' 0 8]

/-- A read returns bytes from the index last written: at 20h the result block from its first byte (8.1). It changes nothing
(R131). At any other index the spec gives a read no content: DESIGN CHOICE, the sensor says nothing of its bytes, `none`
(log 27). -/
def RemoteSensor.read (x : RemoteSensor) : Option (List Byte) := if x.index = resultIndex then some x.block else none

end Sys2Proof.Machine
end

