-- ==== Sys2Proof/Safety.lean ====
section
/-! DEFINITION. What a sound state of the SH16 is: the relations that the spec states between pieces of state and that
every step keeps. The machine cannot stop (log 1), so safety here is that these relations never break. -/

namespace Sys2Proof.Machine

/-! ## Reservations (R40, R41, R67) -/

/-- The engine of a channel's kind (R41). -/
def engineOf (c : Channel) : Engine := if isLocal c then .localEngine else .remoteEngine

/-- At most one pending entry and at most one conversion in flight of any channel; a result entry is reserved exactly
while its channel is in flight; each conversion is its kind's engine's; and the room of the two engines is kept. -/
def State.ReservationsAgree (s : State) : Prop :=
  (s.pendingList.map (·.channel)).Nodup
  ∧ (s.inFlight.map (·.channel)).Nodup
  ∧ (∀ c : Channel, (s.result c).reserved = true ↔ c ∈ s.inFlight.map (·.channel))
  ∧ (∀ r ∈ s.inFlight, r.engine = engineOf r.channel)
  ∧ s.inFlightOf .localEngine ≤ 2
  ∧ s.inFlightOf .remoteEngine ≤ 4

/-! ## Channel records (R1, R3, R12) -/

/-- The fields of a record are those of its number's kind, in the ranges of R1; a remote record may hold the address of
device reset only while it is OFF. -/
def ChannelRecord.Legal (c : Channel) (x : ChannelRecord) : Prop :=
  match x.fields with
  | .localKind _ n _ => isLocal c = true ∧ 16 ≤ n.toNat
  | .remoteKind address settle _ =>
    isLocal c = false ∧ 1 ≤ settle.toNat ∧ (x.enable = true → 0x08 ≤ address.toNat ∧ address.toNat ≤ 0x77)

/-- Every channel record is legal, no two remote channels that are ON share a bus address, and no holder means
expiry 0. -/
def State.ChannelsLegal (s : State) : Prop :=
  (∀ c : Channel, (s.channel c).Legal c)
  ∧ (∀ c d : Channel, c ≠ d → (s.channel c).enable = true → (s.channel d).enable = true →
      (s.channel c).fields.address = none ∨ (s.channel c).fields.address ≠ (s.channel d).fields.address)
  ∧ (∀ c : Channel, (s.channel c).holder = none → (s.channel c).expiry = 0)

/-! ## The converter and quiet (R96, R97, R98, R60, R62, R102) -/

/-- HELD only while quiet is active, not counting and not IDLE while it is, both counters 0 and the oscillation low outside
REF and SENSE, a span count still to go in SENSE, and no more FAST periods since a tick than a tick has. -/
def State.ConverterObeysQuiet (s : State) : Prop :=
  (s.converter.state = .held → s.quietActive = true)
  ∧ (s.quietActive = true → s.converter.state.counting = false ∧ s.converter.state ≠ .idle)
  ∧ (s.converter.state.counting = false →
      s.converter.cycleCounter = 0 ∧ s.converter.spanCounter = 0 ∧ s.converter.wave = .low)
  ∧ (s.converter.state.inSense = true → s.converter.spanCounter ≠ 0)
  ∧ s.timebase.subTick.toNat ≤ Config.fastPeriodsPerTick

/-! ## Deadlines (R146) -/

/-- The item has a deadline, or an expiry that has been delivered and not yet been taken. -/
def State.HasDeadline (s : State) (i : DeadlineItem) : Prop :=
  i ∈ s.timebase.deadlines.map (·.item) ∨ i ∈ s.timebase.delivered

/-- An item has at most one deadline or delivered expiry (R146). -/
def State.DeadlinesUnique (s : State) : Prop :=
  (s.timebase.deadlines.map (·.item) ++ s.timebase.delivered).Nodup

/-- A channel has a claim deadline exactly while a port holds its claim, and a port one of its quiet window exactly while
the window is open (R6, R8, R9, R58, R59). -/
def State.HeldDeadlinesAgree (s : State) : Prop :=
  (∀ c : Channel, s.HasDeadline (.claim c) ↔ (s.channel c).holder ≠ none)
  ∧ ∀ p : Port, s.HasDeadline (.quietEnd p) ↔ (s.port p).quietEnd ≠ none

/-! ## The bus controller (7.6, R118, R128) -/

/-- The states in which the controller waits for the bus or for its next attempt. -/
def BusControl.waiting : BusControl → Bool
  | .waitFree => true
  | .backoff _ => true
  | _ => false

/-- IDLE means no transaction and attempt count 0, any other state an attempt count of 1 to 4; the bit timer is as the
table of 7.6 says for the state; the hold limit is held exactly while XCL is released and not yet high, and the bus
wait limit exactly in WAIT_FREE and BACKOFF. -/
def State.BusCoherent (s : State) : Prop :=
  (s.bus.control = .idle ↔ s.bus.transaction = none)
  ∧ (s.bus.control = .idle ↔ s.bus.attempt = 0)
  ∧ s.bus.timer = timerIn s.bus.rate s.bus.control
  ∧ (s.HasDeadline .holdLimit ↔ s.bus.control.rising = true)
  ∧ (s.HasDeadline .busWait ↔ s.bus.control.waiting = true)
  ∧ (s.resetN = .low → s.bus.control = .idle)

/-! ## The Remote Engine (R132, R136, R139) -/

/-- The controller carries this row's transaction (R132). -/
def Row.carried (x : Row) : Bool := decide (x.state = .triggering) || decide (x.state = .reading)

/-- No row is TRIGGERING or READING while the controller is IDLE, and exactly one is while it is not; the read order holds
exactly the rows in READ_DUE and the wait order exactly those in RATIO_WAIT, each once; and a row has a read due deadline
exactly while it is SETTLING. -/
def State.RemoteCoherent (s : State) : Prop :=
  (s.bus.control = .idle → ∀ r : RowNo, (s.row r).carried = false)
  ∧ (s.bus.control ≠ .idle → ∃ r : RowNo, ∀ q : RowNo, (s.row q).carried = true ↔ q = r)
  ∧ s.remote.readOrder.Nodup ∧ (∀ r : RowNo, r ∈ s.remote.readOrder ↔ (s.row r).state = .readDue)
  ∧ s.remote.waitOrder.Nodup ∧ (∀ r : RowNo, r ∈ s.remote.waitOrder ↔ (s.row r).state = .ratioWait)
  ∧ ∀ r : RowNo, s.HasDeadline (.readDue r) ↔ (s.row r).state = .settling

/-! ## Before start-up has ended (R143) -/

/-- The values of a slot that is FREE: the right-hand column of the table of R22. -/
def freeSlotValues : Slot :=
  { state := .free, kind := .convert, channel := 0, tag := 0, maxAge := 0, period := 0, nextDue := 0, joinStamp := 0
    noticeQueued := false, missed := 0 }

/-- What a port holds for the shared blocks is at its reset values: no slot in use, no record, no window, and none of
the four flags that other blocks set. -/
def PortState.Unused (x : PortState) : Prop :=
  x.slots = Vector.replicate 12 freeSlotValues ∧ x.queue = [] ∧ x.version = 0 ∧ x.quietEnd = none
  ∧ x.flags.tap = false ∧ x.flags.claimLapsed = false ∧ x.flags.busFault = false ∧ x.flags.quietLapsed = false

/-- While the Timebase is STARTING, or RESET_N is low, every shared block stands as the device reset left it: tick 0, no
deadline, no work, nothing claimed, and no transaction on the bus. -/
def State.NothingBeforeRunning (s : State) : Prop :=
  (s.resetN = .low → s.timebase.startState = .starting)
  ∧ (s.timebase.startState = .starting →
      s.timebase = .reset ∧ s.channels = Vector.ofFn .reset ∧ s.results = Vector.replicate 16 .reset
      ∧ s.pendingList = [] ∧ s.inFlight = [] ∧ s.ratio = .reset ∧ s.converter = .reset ∧ s.remote = .reset
      ∧ s.bus.control = .idle ∧ s.bus.timer = .stopped ∧ s.bus.attempt = 0 ∧ s.bus.transaction = none
      ∧ s.portA.Unused ∧ s.portB.Unused)

/-! ## Requests, waiters and records (R22, R23, R40, R73, R146) -/

/-- Every waiter of every pending entry and of every conversion in flight. -/
def State.everyWaiter (s : State) : List Waiter :=
  s.pendingList.flatMap (·.waiters) ++ s.inFlight.flatMap (·.waiters)

/-- The slot holds a running request. -/
def Slot.running (x : Slot) : Bool := decide (x.state = .waiting) || decide (x.state = .dormant)

/-- The finals of the records that a slot's state and notice queued call for: one final record for FINISHED, one
notice for a running WATCH with notice queued, and otherwise none (R73). -/
def Slot.recordFinals (x : Slot) : List Bool :=
  match x.state with
  | .free => []
  | .finished => [true]
  | .waiting => if x.noticeQueued then [false] else []
  | .dormant => if x.noticeQueued then [false] else []

/-- One slot agrees with the lists of waiters, with its port's queue, with its deadline and with its channel, and a slot
of a CONVERT keeps what only a WATCH uses at its FREE values. -/
def State.SlotAgrees (s : State) (p : Port) (i : SlotNo) : Prop :=
  let x := s.slot p i
  s.everyWaiter.count { port := p, slot := i } = (if x.state = .waiting then 1 else 0)
  ∧ ((s.port p).queue.filter (fun r => decide (r.slot = i))).map (·.final) = x.recordFinals
  ∧ (s.HasDeadline (.watchDue p i) ↔ x.kind = .watch ∧ x.running = true)
  ∧ (x.state = .free → x = freeSlotValues)
  ∧ (x.kind = .convert →
      x.state ≠ .dormant ∧ x.noticeQueued = false ∧ x.period = 0 ∧ x.nextDue = 0 ∧ x.missed = 0)
  ∧ (x.running = true → (s.channel x.channel).enable = true)

/-- Every slot agrees with the rest of the part, every waiter stands at its own channel, no waiter set of a pending entry
is empty, and every channel with work is ON. -/
def State.RequestsAgree (s : State) : Prop :=
  (∀ i : SlotNo, s.SlotAgrees .a i ∧ s.SlotAgrees .b i)
  ∧ (∀ e ∈ s.pendingList, e.waiters ≠ [] ∧ (s.channel e.channel).enable = true
      ∧ ∀ w ∈ e.waiters, (s.slot w.port w.slot).channel = e.channel)
  ∧ (∀ r ∈ s.inFlight, (s.channel r.channel).enable = true
      ∧ ∀ w ∈ r.waiters, (s.slot w.port w.slot).channel = r.channel)

end Sys2Proof.Machine
end

