-- ==== Sys2Proof/Certificates/Slice0/Obligations.lean ====
section
/-! DEFINITION. The statements about the SH16, for the provers. First the words they are written in: each describes an
outcome by the fields it gives to the state before, so that everything not named is said to be unchanged. -/

namespace Sys2Proof.Statement

open Sys2Proof.Machine

/-! ## Cycles of a port -/

/-- A cycle of port `p` can open: neither reset pin that holds the port is low (R159). -/
def Open (s : State) (p : Port) : Prop := s.resetN = .high ∧ (s.port p).rstN = .high

/-- The command is a DATA write cycle that opens at 010h with the Timebase RUNNING (R19, R20). -/
def CommitReady (s : State) (c : DataCycle) : Prop :=
  c.selected = true ∧ Open s c.port ∧ (s.port c.port).writePtr = 0x010 ∧ s.timebase.startState = .running

/-- The pointers after a DATA write, and nothing driven on PxD (R149, R152). -/
def afterWrite (x : PortState) (advance : Bool) : PortState :=
  { x with
    writePtr := if advance = true then x.writePtr + 1 else x.writePtr
    readPtr := if advance = true ∧ x.control.getLsbD 0 = false then x.readPtr + 1 else x.readPtr
    dataOut := none }

/-- The pointers after a DATA read, and the word driven on PxD (R149, R152). -/
def afterRead (x : PortState) (advance : Bool) (w : Word) : PortState :=
  { x with
    readPtr := if advance = true then x.readPtr + 1 else x.readPtr
    writePtr := if advance = true ∧ x.control.getLsbD 0 = false then x.writePtr + 1 else x.writePtr
    dataOut := some w }

/-- The stored command word and the submit status of a commit (R19). -/
def submitted (x : PortState) (word : Word) (code : SubmitCode) (slot : Option SlotNo) : PortState :=
  { x with
    staging := { x.staging with command := word }
    submitCount := x.submitCount + 1, submitCode := code, submitSlot := slot }

/-- The state after a commit cycle that left `s` in the shared blocks, the slots and the queue: only the committing
port's command word, submit status, pointers and PxD differ from `s`. -/
def answered (s : State) (c : DataCycle) (word : Word) (code : SubmitCode) (slot : Option SlotNo) : State :=
  s.setPort c.port (afterWrite (submitted (s.port c.port) word code slot) c.advance)

/-! ## Deadlines (R146) -/

/-- The item's deadline, and an expiry of it not yet taken, are gone. -/
def without (s : State) (i : DeadlineItem) : State :=
  { s with timebase := { s.timebase with
      deadlines := s.timebase.deadlines.filter (fun d => decide (d.item ≠ i))
      delivered := s.timebase.delivered.filter (fun j => decide (j ≠ i)) } }

/-- The item has one deadline, at `t`. -/
def withDeadline (s : State) (i : DeadlineItem) (t : Stamp) : State :=
  { s with timebase := { s.timebase with
      deadlines := s.timebase.deadlines.filter (fun d => decide (d.item ≠ i)) ++ [{ item := i, stamp := t }]
      delivered := s.timebase.delivered.filter (fun j => decide (j ≠ i)) } }

/-! ## Channels, slots and records -/

/-- The state with one channel record changed. -/
def withChannel (s : State) (c : Channel) (x : ChannelRecord) : State := { s with channels := s.channels.set c x }

/-- The five conditions of the reuse test (R44). -/
def Reusable (s : State) (ch : Channel) (maxAge : Word) : Prop :=
  0 < maxAge.toNat ∧ s.results[ch].valid = true ∧ s.results[ch].part.status = .ok
  ∧ s.results[ch].part.generation = s.channels[ch].generation
  ∧ (s.timebase.tick - s.results[ch].part.endStamp).toNat ≤ maxAge.toNat

/-- `i` is the lowest-numbered FREE slot of the port (R24). -/
def LowestFree (x : PortState) (i : SlotNo) : Prop :=
  x.slots[i].state = .free ∧ ∀ j : SlotNo, j < i → x.slots[j].state ≠ .free

/-- The port has no FREE slot. -/
def NoFree (x : PortState) : Prop := ∀ j : SlotNo, x.slots[j].state ≠ .free

/-- The port with one slot changed. -/
def withSlot (x : PortState) (i : SlotNo) (y : Slot) : PortState := { x with slots := x.slots.set i y }

/-- The port with a record at the tail of its queue; the record has the version counter's next value (R74). -/
def appended (x : PortState) (r : ResponseRecord) : PortState :=
  { x with version := x.version + 1, queue := x.queue ++ [{ r with version := x.version + 1 }] }

/-- The port with the records of slot `i` changed in place to a new version (R74). -/
def changed (x : PortState) (i : SlotNo) (f : ResponseRecord → ResponseRecord) : PortState :=
  { x with
    version := x.version + 1
    queue := x.queue.map fun r => if r.slot = i then { f r with version := x.version + 1 } else r }

/-- The record that reports a result to slot `i` (R72, R75, R76). -/
def resultRecord (y : Slot) (i : SlotNo) (final : Bool) (source : Source) (missed : Byte) (part : ResultPart) :
    ResponseRecord :=
  { disposition := .result, final := final, source := source, kind := y.kind, slot := i, channel := y.channel, tag := y.tag
    version := 0, coalesced := 0, missed := missed, part := some part }

/-- The record that ends the request of slot `i` without a result part (R78). -/
def endRecord (y : Slot) (i : SlotNo) (disposition : Disposition) : ResponseRecord :=
  { disposition := disposition, final := true, source := .none, kind := y.kind, slot := i, channel := y.channel
    tag := y.tag, version := 0, coalesced := 0, missed := y.missed, part := none }

/-- A count one higher that stays at its greatest value (R29, R61, R77). -/
def oneMore {w : Nat} (x : BitVec w) : BitVec w := if x = BitVec.allOnes w then x else x + 1

/-- The Pending List after a slot has joined the channel's entry, or has placed a new one at the tail (R45, R46). -/
def requested (l : List PendingEntry) (ch : Channel) (w : Waiter) : List PendingEntry :=
  if ch ∈ l.map (·.channel) then
    l.map fun e => if e.channel = ch then { e with waiters := addWaiter w e.waiters } else e
  else l ++ [{ channel := ch, waiters := [w], restarts := 0 }]

/-- The waiters of a port in a set, in rising order of slot number (R53). -/
def waitersOf (p : Port) (ws : List Waiter) : List SlotNo :=
  (List.finRange 12).filter fun i => decide (({ port := p, slot := i } : Waiter) ∈ ws)

/-- The version that the record of slot `i` takes when the slots of `l` are acted on one after another (R74). -/
def versionIn (x : PortState) (l : List SlotNo) (i : SlotNo) : Word := x.version + BitVec.ofNat 16 (l.idxOf i + 1)

/-- The slot has a notice that a delivery or an end changes in place (R73). -/
def keepsNotice (x : PortState) (i : SlotNo) : Bool := x.slots[i].noticeQueued

/-- A port after one result has been delivered to each slot of `l` in turn (R53, R75 to R77). -/
def delivered (x : PortState) (l : List SlotNo) (part : ResultPart) : PortState :=
  let inPlace := fun i => decide (x.slots[i].kind = .watch) && x.slots[i].noticeQueued
  { x with
    version := x.version + BitVec.ofNat 16 l.length
    slots := Vector.ofFn fun i =>
      if i ∈ l then
        match x.slots[i].kind with
        | .convert => { x.slots[i] with state := .finished }
        | .watch => { x.slots[i] with state := .dormant, noticeQueued := true }
      else x.slots[i]
    queue :=
      x.queue.map (fun r =>
        if r.slot ∈ l ∧ inPlace r.slot = true then
          { r with
            source := .conversion, part := some part, missed := x.slots[r.slot].missed, coalesced := oneMore r.coalesced
            version := versionIn x l r.slot }
        else r)
      ++ (l.filter fun i => !inPlace i).map fun i =>
        { resultRecord x.slots[i] i (decide (x.slots[i].kind = .convert)) .conversion
            (if x.slots[i].kind = .convert then 0 else x.slots[i].missed) part with
          version := versionIn x l i } }

/-- A port after each slot of `l` in turn has been ended with CHANNEL_OFF (R34, R57, R78). -/
def withdrawn (x : PortState) (l : List SlotNo) : PortState :=
  { x with
    version := x.version + BitVec.ofNat 16 l.length
    slots := Vector.ofFn fun i => if i ∈ l then { x.slots[i] with state := .finished } else x.slots[i]
    queue :=
      x.queue.map (fun r =>
        if r.slot ∈ l ∧ keepsNotice x r.slot = true then
          { r with
            final := true, disposition := .channelOff, missed := x.slots[r.slot].missed, version := versionIn x l r.slot }
        else r)
      ++ (l.filter fun i => !keepsNotice x i).map fun i =>
        { endRecord x.slots[i] i .channelOff with version := versionIn x l i } }

/-! ## The bus and the rows -/

/-- The controller in a state with its bit timer. -/
def inControl (s : State) (c : BusControl) (t : BitTimer) : State := { s with bus := { s.bus with control := c, timer := t } }

/-- The bit timer running from the reload value of the sampled rate: 42 or 11 (R115). -/
def halfBit (s : State) : BitTimer :=
  match s.bus.rate with
  | .standard => .running 42
  | .fast => .running 11

/-- The controller enters a half-bit period (R115). -/
def timed (s : State) (c : BusControl) : State := inControl s c (halfBit s)

/-- The controller releases XCL: timer suspended, hold limit 9 ticks ahead (R116). -/
def released (s : State) (c : BusControl) : State :=
  withDeadline (inControl s c .suspended) .holdLimit (s.timebase.tick + 9)

/-- The bus is BUSY: a START condition was seen (R113). -/
def busy (s : State) : State := { s with bus := { s.bus with busState := .busy, linesHigh := false } }

/-- The bus is FREE: a STOP condition was seen, which also ends the idle check (R113, R114). -/
def freed (s : State) : State :=
  { s with bus := { s.bus with busState := .free, idleCheck := false, linesHigh := false } }

/-- The controller after a transaction's end: IDLE, attempt count 0, timer stopped, no deadline, no record of it (R128). -/
def endedBus (s : State) : State :=
  let u := without (without s .holdLimit) .busWait
  { u with bus := { u.bus with control := .idle, timer := .stopped, attempt := 0, transaction := none, received := [] } }

/-- BACKOFF for the next attempt, with its wait limit 65 ticks ahead, after a loss of attempts 1 to 3 (R119, R126). -/
def backedOff (s : State) : State :=
  let u := withDeadline (without s .holdLimit) .busWait (s.timebase.tick + 65)
  { u with bus := { u.bus with
      control := .backoff false, timer := halfBit s, attempt := Fin.ofNat 5 (s.bus.attempt.val + 1), received := [] } }

/-- The attempt's START has begun: XDA pulled low, wait limit dropped, bus BUSY (R119, R120). -/
def startBegun (s : State) : State := timed (busy (without s .busWait)) .start

/-- The controller carries no attempt. -/
def NoAttempt (s : State) : Prop :=
  (match s.bus.control with
  | .idle => true
  | .waitFree => true
  | .backoff _ => true
  | _ => false) = true

/-- The places of an attempt where another device's condition can be sampled: XCL is high, and the controller does not hold
XDA low, but for START, which R126 names (R112, R121, R126; log 11). -/
def Exposed (s : State) : Prop :=
  (match s.bus.control with
  | .start => true
  | .sendByte y i .high => (sentByte s.bus.carried y).getMsbD i.val
  | .ackIn _ .high _ => true
  | .recvByte _ .high _ => true
  | .ackOut .high => decide (s.bus.carried.readCount ≤ s.bus.received.length)
  | .restart (.clocked .high) => true
  | .stop .released _ => true
  | .stop .overdue _ => true
  | _ => false) = true

/-- A loss of arbitration can be found where the controller is: the place column of the table of R126. -/
def Losable (s : State) : LossCause → Prop
  | .startXclLow => s.bus.control = .waitFree ∧ s.bus.busState = .free
  | .sendXdaLow => ∃ y i, s.bus.control = .sendByte y i .high ∧ (sentByte s.bus.carried y).getMsbD i.val = true
  | .ackXdaLow => s.bus.control = .ackOut .high ∧ s.bus.carried.readCount ≤ s.bus.received.length
  | .restartXdaLow => s.bus.control = .restart (.clocked .rising)
  | .restartXclLow => s.bus.control = .restart (.clocked .high)
  | .stopXdaLow => ∃ result, s.bus.control = .stop .overdue result
  | .foreignStart => Exposed s
  | .foreignStop => Exposed s

/-- The state with one row changed. -/
def withRow (s : State) (r : RowNo) (x : Row) : State :=
  { s with remote := { s.remote with rows := s.remote.rows.set r x } }

/-- An outcome handed over into the channel's conversion record (R52). -/
def handed (s : State) (ch : Channel) (o : ConversionOutcome) : State :=
  { s with inFlight := s.inFlight.map fun r => if r.channel = ch then { r with outcome := some o } else r }

/-- The values a port takes at a reset, with its reset pin at the level given: R160 item by item, its staging words (R18), its
slots FREE (R22, R37), its queue and version counter (R83), no quiet window (R63), and nothing driven on PxD (log 3). -/
def portResetValues (pin : Level) : PortState :=
  { rstN := pin, readPtr := 0, writePtr := 0, control := 0
    flags := { tap := false, claimLapsed := false, earlyStrobe := false, ackStale := false, busFault := false,
               quietLapsed := false }
    buffer := none
    staging := { command := 0, channel := 0, tag := 0, paramA := 0, paramB := 0, settings := 0, config1 := 0, config2 := 0,
                 config3 := 0 }
    submitCount := 0, submitCode := .none, submitSlot := none
    slots := Vector.replicate 12 freeSlotValues, queue := [], version := 0, quietEnd := none, dataOut := none }

/-- The values of a FREE row (R132). -/
def freeRowValues : Row :=
  { state := .free, channel := 8, busAddress := 0, settle := 16, pollLimit := 3, round := false, readDue := 0, polls := 0
    m := 0, n := 0 }

/-- A row's conversion has ended with an error (R140). -/
def failed (s : State) (r : RowNo) (status : Status) : State :=
  handed (withRow s r freeRowValues) s.remote.rows[r].channel { value := 0, status := status }

/-- A row settles until its next read due (R135, R138). -/
def settled (s : State) (r : RowNo) (ahead : Stamp) (polls : BitVec 4) : State :=
  withDeadline
    (withRow s r { s.remote.rows[r] with state := .settling, readDue := s.timebase.tick + ahead, polls := polls })
    (.readDue r) (s.timebase.tick + ahead)

/-- The one row whose transaction the controller carries (R132). -/
def Carries (s : State) (r : RowNo) (state : RowState) : Prop :=
  (state = .triggering ∨ state = .reading) ∧ s.remote.rows[r].state = state
  ∧ ∀ q : RowNo, q ≠ r → s.remote.rows[q].state ≠ .triggering ∧ s.remote.rows[q].state ≠ .reading

/-- The state once the transaction carried for row `r` has ended with an error outcome (R135, R138, R140). -/
def carriedFailed (s : State) (r : RowNo) (status : Status) : State := failed (endedBus s) r status

/-! ## The Ratio Unit and the converter -/

/-- The job of a row whose counts are M and N (R139). -/
def jobOf (x : Row) (m n : Word) : Job := { channel := x.channel, m := m, n := n, round := x.round, origin := .remoteEngine }

/-- The remote input's hand-off from the head of the wait order, when the input empties (R139). -/
def waitHandedOff (s : State) : State :=
  match s.remote.waitOrder with
  | [] => s
  | r :: rest =>
    let x := s.remote.rows[r]
    { s with
      ratio := { s.ratio with remoteInput := some (jobOf x x.m x.n) }
      remote := { s.remote with rows := s.remote.rows.set r freeRowValues, waitOrder := rest } }

/-- The state of the converter once its job has left it: IDLE, or HELD while quiet is active, counters 0 and the oscillation
low (R96, R104, R105). -/
def handedOff (s : State) : Converter :=
  { state := if s.portA.quietEnd = none ∧ s.portB.quietEnd = none then .idle else .held
    cycleCounter := 0, spanCounter := 0, wave := .low }

/-- The local input's hand-off from a converter in RATIO_WAIT, when the input empties (R105). -/
def converterHandedOff (s : State) : State :=
  match s.converter.state with
  | .ratioWait _ j => { s with ratio := { s.ratio with localInput := some j }, converter := handedOff s }
  | _ => s

/-- The divider takes the local job and the input empties (R86). -/
def localTaken (s : State) (j : Job) : State :=
  converterHandedOff { s with ratio := { s.ratio with divider := some j, localInput := none } }

/-- The divider takes the remote job and the input empties (R86). -/
def remoteTaken (s : State) (j : Job) : State :=
  waitHandedOff { s with ratio := { s.ratio with divider := some j, remoteInput := none } }

/-- The converter's conversion has ended with an error outcome (R106). -/
def localFailed (s : State) (cur : Current) (status : Status) : State :=
  { handed s cur.channel { value := 0, status := status } with
    converter := { state := .idle, cycleCounter := 0, spanCounter := 0, wave := .low } }

/-- The part counts its crystal: RUNNING, with RESET_N high (R143). -/
def Runs (s : State) : Prop := s.timebase.startState = .running ∧ s.resetN = .high

/-- The FAST periods that have ended since the last tick (R97). -/
def periods (s : State) : Nat := s.timebase.subTick.toNat

/-- One more FAST period of the tick has ended, and with every fourth one a crystal cycle (R97). -/
def onePeriod (s : State) : State :=
  { s with timebase := { s.timebase with
      subTick := s.timebase.subTick + 1
      crystalCycles := s.timebase.crystalCycles + if (periods s + 1) % 4 = 0 then 1 else 0 } }

/-- The next FAST period is one the tick still has, and ends a period of the span clock named: each one of FAST, and every
fourth of SLOW (R97). -/
def SpanPeriodNext (s : State) (clock : SpanClock) : Prop :=
  Runs s ∧ periods s < 128 ∧ (clock = .slow → (periods s + 1) % 4 = 0)

/-- The periods of the span clock named that end within the next `k` FAST periods of the tick (R97). -/
def spanPeriodsIn (s : State) (clock : SpanClock) (k : Nat) : Nat :=
  match clock with
  | .fast => k
  | .slow => (periods s + k) / 4 - periods s / 4

/-! ## Quiet -/

/-- No port holds a quiet window (R58). -/
def NoWindow (s : State) : Prop := s.portA.quietEnd = none ∧ s.portB.quietEnd = none

/-- The port's window is open until `t` and has a deadline there (R58). -/
def windowOpen (s : State) (p : Port) (t : Stamp) : State :=
  withDeadline (s.setPort p { s.port p with quietEnd := some t }) (.quietEnd p) t

/-- The port's window is gone, with its deadline (R58). -/
def windowGone (s : State) (p : Port) : State :=
  without (s.setPort p { s.port p with quietEnd := none }) (.quietEnd p)

/-- A HELD converter becomes IDLE and any other stays as it is (R62). -/
def unheld (x : Converter) : Converter := if x.state = .held then { x with state := .idle } else x

/-- The Pending List after the conversion of record `r` has been discarded (R61). -/
def requeued (r : ConversionRecord) (l : List PendingEntry) : List PendingEntry :=
  if r.waiters = [] then l
  else
    { channel := r.channel
      waiters := (l.filter fun e => decide (e.channel = r.channel)).foldr (fun e ws => unionWaiters e.waiters ws) r.waiters
      restarts := oneMore r.restarts } :: l.filter fun e => decide (e.channel ≠ r.channel)

/-- A set of flags of a port with one more set, unless the port is held in reset (R157, R159). -/
def flagged (s : State) (p : Port) (f : EventFlags → EventFlags) : State :=
  if s.resetN = .high ∧ (s.port p).rstN = .high then s.setPort p { s.port p with flags := f (s.port p).flags } else s

end Sys2Proof.Statement

open Sys2Proof Sys2Proof.Machine Sys2Proof.Statement

/-! ## The machine and its queue of commands -/

/-- One step runs the command at the front of the queue on the state with the queue's rest; an empty queue idles
(the model's choice, log 18). -/
def Obligations.StepRunsTheFrontCommand : Prop :=
  (∀ (c : Instr) (s : State), step { s with pending := c :: s.pending } = exec c s)
  ∧ (∀ s : State, s.pending = [] → step s = .next s)

/-- Every command answers a next state, whatever the state, and leaves the queue alone (the model's choice, log 1). -/
def Obligations.EveryCommandAnswersNext : Prop :=
  ∀ (c : Instr) (s : State), ∃ t : State, exec c s = .next t ∧ t.pending = s.pending

/-- An event of the part whose conditions do not hold does not occur: its command changes nothing (R48, R52, R92, R100 to R103,
R125 to R127, R133, R143, R146; log 1). That is: an expiry not delivered, or dropped; a local take; a phase end or an overflow
away from its state or from its counts; the end of a division with a free divider; a completion without an outcome; a choice
of bus work, where a due read always goes before a trigger; a STOP, a loss or an end of BACKOFF away from its places; a tick
before RUNNING. That a cycle is completed by OSCMON's return to low and that four FAST periods make a SLOW one, on which the
phase ends and overflows rest, is the model's choice (logs 5, 6). -/
def Obligations.EventsWithoutTheirConditionsDoNotOccur : Prop :=
  ∀ s : State,
    (∀ c : Channel, .claim c ∉ s.timebase.delivered → exec (.claimExpiry c) s = .next s)
    ∧ (∀ (p : Port) (i : SlotNo), .watchDue p i ∉ s.timebase.delivered → exec (.dueExpiry p i) s = .next s)
    ∧ (∀ p : Port, .quietEnd p ∉ s.timebase.delivered → exec (.quietWindowExpiry p) s = .next s)
    ∧ (∀ r : RowNo, .readDue r ∉ s.timebase.delivered → exec (.readExpiry r) s = .next s)
    ∧ (.holdLimit ∉ s.timebase.delivered → exec .holdLimitExpiry s = .next s)
    ∧ (.busWait ∉ s.timebase.delivered → exec .busWaitLimitExpiry s = .next s)
    ∧ ((s.converter.state ≠ .idle ∨ ¬ NoWindow s ∨ 2 ≤ s.inFlightOf .localEngine
        ∨ ∀ e ∈ s.pendingList, 8 ≤ e.channel.val ∨ s.results[e.channel].reserved = true) →
      exec .localTake s = .next s)
    ∧ (∀ ch : Channel, (∀ r ∈ s.inFlight, r.channel = ch → r.outcome = none) → exec (.completion ch) s = .next s)
    ∧ (∀ xcl : Level, (s.bus.control ≠ .idle ∨ s.remote.readOrder = []) → exec (.read xcl) s = .next s)
    ∧ (∀ xcl : Level, (s.bus.control ≠ .idle ∨ s.remote.readOrder ≠ [] ∨ 4 ≤ s.inFlightOf .remoteEngine
        ∨ (∀ r : RowNo, s.remote.rows[r].state ≠ .free)
        ∨ (∀ e ∈ s.pendingList, e.channel.val < 8 ∨ s.results[e.channel].reserved = true)) →
      exec (.trigger xcl) s = .next s)
    ∧ (((∀ cur, s.converter.state ≠ .ref cur) ∨ s.converter.cycleCounter ≠ 0xFFFF ∨ s.converter.wave = .low) →
      exec (.referencePhaseEnd []) s = .next s)
    ∧ ((∀ cur, s.converter.state = .ref cur → ¬ SpanPeriodNext s cur.spanClock ∨ s.converter.spanCounter ≠ 0xFFFF) →
      exec .spanOverflow s = .next s)
    ∧ ((∀ cur, s.converter.state = .sense cur → ¬ SpanPeriodNext s cur.spanClock ∨ s.converter.spanCounter ≠ 1) →
      exec (.sensingPhaseEnd []) s = .next s)
    ∧ (((∀ cur, s.converter.state ≠ .sense cur) ∨ s.converter.cycleCounter ≠ 0xFFFF ∨ s.converter.wave = .low) →
      exec .cycleCounterOverflow s = .next s)
    ∧ (s.ratio.divider = none → exec .divisionEnd s = .next s)
    ∧ ((∀ place result, s.bus.control = .stop place result → place = .clocked .low ∨ place = .clocked .rising) →
      exec .stop s = .next s)
    ∧ (∀ cause : LossCause, ¬ Losable s cause → exec (.lossOfArbitration cause) s = .next s)
    ∧ (∀ xcl : Level, (∀ second, s.bus.control ≠ .backoff second) → exec (.backoffEnd xcl) s = .next s)
    ∧ (∀ x : TickInput, ¬ Runs s → exec (.tick x) s = .next s)

/-! ## Resets -/

/-- DEVICE_RESET gives every block its reset values. The levels of the port reset pins and the commands that wait are kept
(the model's choice, log 22); the bus rate is sampled at power-on, and at the fall of RESET_N the old one is kept until the
pin rises (log 21). Both ports take the values of R160, R18, R22 and R83; the count of FAST periods and the word driven on PxD
are the model's (logs 5, 3). A power-on from an empty queue with the pins high and XRATE low leaves the state right after
reset (log 8, log 9). -/
def Obligations.DeviceResetRestoresEveryBlock : Prop :=
  (∀ (cause : ResetCause) (s : State), ∃ t : State,
      exec (.deviceReset cause) s = .next t
      ∧ t.timebase = { startState := .starting, tick := 0, crystalCycles := 0, subTick := 0, deadlines := [], delivered := [] }
      ∧ (∀ c : Channel, t.channels[c] =
          { enable := false, round := false, generation := 0
            fields := if c.val < 8 then .localKind (Fin.ofNat 8 c.val) 1024 .slow else .remoteKind 0 16 3
            holder := none, expiry := 0 })
      ∧ (∀ c : Channel, t.results[c] =
          { valid := false, reserved := false
            part := { value := 0, status := .ok, sequence := 0, startStamp := 0, endStamp := 0, generation := 0, restarts := 0 } })
      ∧ t.pendingList = [] ∧ t.inFlight = []
      ∧ (∀ p : Port, t.port p = portResetValues (s.port p).rstN)
      ∧ t.ratio = { localInput := none, remoteInput := none, divider := none, marker := .remoteEngine }
      ∧ t.converter = { state := .idle, cycleCounter := 0, spanCounter := 0, wave := .low } ∧ t.oscmon = .low
      ∧ (∀ r : RowNo, t.remote.rows[r] = freeRowValues) ∧ t.remote.readOrder = [] ∧ t.remote.waitOrder = []
      ∧ t.bus.control = .idle ∧ t.bus.busState = .busy ∧ t.bus.idleCheck = true ∧ t.bus.timer = .stopped
      ∧ t.bus.attempt = 0 ∧ t.bus.transaction = none ∧ t.bus.received = [] ∧ t.bus.linesHigh = false
      ∧ t.pending = s.pending
      ∧ (match cause with
         | .powerOn xrate => t.resetN = s.resetN ∧ (t.bus.rate = .fast ↔ xrate = .high)
         | .resetPin => t.resetN = .low ∧ t.bus.rate = s.bus.rate))
  ∧ (∀ s : State, s.pending = [] → s.resetN = .high → s.portA.rstN = .high → s.portB.rstN = .high →
      exec (.deviceReset (.powerOn .low)) s = .next State.reset)
  ∧ State.reset.pending = [] ∧ State.reset.resetN = .high ∧ State.reset.portA.rstN = .high
  ∧ State.reset.portB.rstN = .high ∧ State.reset.bus.rate = .standard

/-- RESET_N_RELEASE samples XRATE at the rise of the pin; PORT_RESET_RELEASE ends the held state of one port and keeps its
values; ENTER_RUNNING makes the Timebase RUNNING with the tick counter as it stands, unless RESET_N is low or it runs already,
and is no tick and sets no flag; BUS_LINE_LOW only starts the idle check's count again (R114, R115, R143, R159). The model's
readings: a release of a RESET_N that is high, and an end of start-up that cannot be, do not occur (log 1), and the 256
crystal cycles of start-up are counted in one step (log 5). -/
def Obligations.ReleasesAndStartUp : Prop :=
  ∀ s : State,
    (∀ xrate : Level, s.resetN = .low →
      exec (.resetNRelease xrate) s =
        .next { s with
          resetN := .high
          bus := { s.bus with rate := match xrate with | .low => .standard | .high => .fast } })
    ∧ (∀ xrate : Level, s.resetN = .high → exec (.resetNRelease xrate) s = .next s)
    ∧ (∀ p : Port, exec (.portResetRelease p) s = .next (s.setPort p { s.port p with rstN := .high }))
    ∧ (s.timebase.startState = .starting → s.resetN = .high → exec .enterRunning s =
      .next { s with timebase := { s.timebase with startState := .running, crystalCycles := 256 } })
    ∧ ((s.timebase.startState = .running ∨ s.resetN = .low) → exec .enterRunning s = .next s)
    ∧ exec .busLineLow s = .next { s with bus := { s.bus with linesHigh := false } }

/-- PORT_RESET and RESET_ACTION: the port takes its reset values, its waiters leave every waiter set, its due deadlines,
claims and quiet window go, quiet ends if it held the only window, and everything else stands (R10, R37, R56, R63,
R160). The reset values are those of R160, R18, R22 and R83: pointers, control word and flags 0, Read Buffer empty, staging
words 0, no submit status, twelve FREE slots, no record, version counter 0 and no window; nothing is driven on PxD (log 3). -/
def Obligations.PortResetActsOnOnePort : Prop :=
  ∀ (p : Port) (s : State),
    let left := fun ws : List Waiter => ws.filter fun w => decide (w.port ≠ p)
    let goes : DeadlineItem → Bool := fun i =>
      match i with
      | .watchDue q _ => decide (q = p)
      | .claim c => decide (s.channels[c].holder = some p)
      | .quietEnd q => decide (q = p)
      | _ => false
    let endsQuiet : Prop := (s.port p).quietEnd ≠ none ∧ (s.port (peer p)).quietEnd = none
    let after : Level → State := fun pin =>
      State.setPort
        { s with
          pendingList := s.pendingList.filterMap fun e =>
            if left e.waiters = e.waiters then some e
            else if left e.waiters = [] then none else some { e with waiters := left e.waiters }
          inFlight := s.inFlight.map fun r => { r with waiters := left r.waiters }
          channels := Vector.ofFn fun c =>
            if s.channels[c].holder = some p then { s.channels[c] with holder := none, expiry := 0 } else s.channels[c]
          timebase := { s.timebase with
            deadlines := s.timebase.deadlines.filter fun d => !goes d.item
            delivered := s.timebase.delivered.filter fun i => !goes i }
          converter :=
            if s.converter.state = .held ∧ (s.port p).quietEnd ≠ none ∧ (s.port (peer p)).quietEnd = none then
              { s.converter with state := .idle }
            else s.converter }
        p (portResetValues pin)
    exec (.portReset p) s = .next (after .low)
    ∧ ∀ w : Word, Open s p → exec (.resetAction p true w) s = .next (after .high)

/-! ## The cycles of a host port -/

/-- A cycle that cannot open changes nothing: PxCS_N high at the strobe's fall, or the port held in reset (R149, R159). -/
def Obligations.ACycleThatDoesNotOpenIsNothing : Prop :=
  ∀ (s : State) (p : Port) (selected : Bool), (selected = false ∨ ¬ Open s p) →
    (∀ (advance : Bool) (w : Word) (i : Instr),
      i ∈ [Instr.convert ⟨p, selected, advance⟩, .watch ⟨p, selected, advance⟩, .cancel ⟨p, selected, advance⟩,
        .claim ⟨p, selected, advance⟩, .release ⟨p, selected, advance⟩, .configure ⟨p, selected, advance⟩,
        .quiet ⟨p, selected, advance⟩, .commitBadKind ⟨p, selected, advance⟩ w,
        .acknowledgement ⟨p, selected, advance⟩ w, .stagingWrite ⟨p, selected, advance⟩ w,
        .eventRecordRead ⟨p, selected, advance⟩, .controlWrite p selected w, .resetAction p selected w,
        .pointerWrite p selected w] → exec i s = .next s)
    ∧ (∀ (x : Access) (isRead : Bool),
        exec (.snapshot p selected x) s = .next s ∧ exec (.earlyStrobe p selected x isRead) s = .next s)

/-- The pointers (R152): what POINTER and CONTROL cycles do to them and what a POINTER read returns, in both modes;
an advance moves the pointer used, and in LINKED mode both; resets set them to 0, LINKED and READ. -/
def Obligations.PointersFollowTheirMode : Prop :=
  ∀ (p : Port) (s : State), Open s p →
    let x := s.port p
    let linked := x.control.getLsbD 0 = false
    let selectsWrite := x.control.getLsbD 1 = true
    (∀ w : Word,
      (linked → exec (.pointerWrite p true w) s =
        .next (s.setPort p { x with readPtr := w.setWidth 9, writePtr := w.setWidth 9, dataOut := none }))
      ∧ (¬ linked → selectsWrite → exec (.pointerWrite p true w) s =
        .next (s.setPort p { x with writePtr := w.setWidth 9, dataOut := none }))
      ∧ (¬ linked → ¬ selectsWrite → exec (.pointerWrite p true w) s =
        .next (s.setPort p { x with readPtr := w.setWidth 9, dataOut := none })))
    ∧ exec (.snapshot p true .pointer) s = .next (s.setPort p { x with
        dataOut := some (if x.control.getLsbD 0 = true ∧ x.control.getLsbD 1 = true then x.writePtr.setWidth 16
          else x.readPtr.setWidth 16) })
    ∧ (∀ w : Word, w.getLsbD 15 = false → ∃ t, exec (.controlWrite p true w) s = .next t
        ∧ (t.port p).readPtr = x.readPtr ∧ (t.port p).writePtr = x.writePtr)
    ∧ (∀ (advance : Bool) (w : Word), ∃ t, exec (.stagingWrite ⟨p, true, advance⟩ w) s = .next t
        ∧ (t.port p).readPtr = (if advance = true ∧ linked then x.readPtr + 1 else x.readPtr)
        ∧ (t.port p).writePtr = (if advance = true then x.writePtr + 1 else x.writePtr))
    ∧ (∀ advance : Bool, ∃ t, exec (.snapshot p true (if advance then .dataAdvance else .data)) s = .next t
        ∧ (t.port p).readPtr = (if advance = true then x.readPtr + 1 else x.readPtr)
        ∧ (t.port p).writePtr = (if advance = true ∧ linked then x.writePtr + 1 else x.writePtr))
    ∧ (∃ t, exec (.portReset p) s = .next t
        ∧ (t.port p).readPtr = 0 ∧ (t.port p).writePtr = 0 ∧ (t.port p).control = 0)
    ∧ (∀ cause, ∃ t, exec (.deviceReset cause) s = .next t
        ∧ (t.port p).readPtr = 0 ∧ (t.port p).writePtr = 0 ∧ (t.port p).control = 0)

/-- The port control word (R163): a CONTROL write stores bits 12 to 0 with an illegal tap select as off, changes nothing
else, and with bit 15 resets the port; a CONTROL read returns it; after every reset it is 0. -/
def Obligations.ControlWordIsStoredAndRead : Prop :=
  ∀ (p : Port) (s : State), Open s p →
    (∀ w : Word, w.getLsbD 15 = false → ∃ control : BitVec 13,
      exec (.controlWrite p true w) s = .next (s.setPort p { s.port p with control := control, dataOut := none })
      ∧ (∀ i : Fin 9, control.getLsbD i.val = w.getLsbD i.val)
      ∧ (let k := (w.toNat / 2 ^ 9) % 16
         control.toNat / 2 ^ 9 = if k = 1 ∨ k = 2 ∨ k = 3 ∨ k = 13 ∨ k = 14 ∨ k = 15 then 0 else k))
    ∧ (∀ w : Word, ∃ t, exec (.resetAction p true w) s = .next t ∧ (t.port p).control = 0
        ∧ (w.getLsbD 15 = true → exec (.controlWrite p true w) s = .next t))
    ∧ (∃ t, exec (.portReset p) s = .next t ∧ (t.port p).control = 0)
    ∧ (∀ cause, ∃ t, exec (.deviceReset cause) s = .next t ∧ (t.port p).control = 0)
    ∧ (∃ w : Word, exec (.snapshot p true .control) s = .next (s.setPort p { s.port p with dataOut := some w })
        ∧ w.toNat = (s.port p).control.toNat)
    ∧ (∀ tick : Stamp, tapFires 0 tick = false)

/-- A DATA write (R154): 011h to 018h store a staging word and do nothing else; 010h stores the command word and commits;
02Fh acknowledges and keeps no value; any other address stores nothing. The pointer advances if the access says so. The seven
requests, COMMIT_BAD_KIND and ACKNOWLEDGEMENT are the same DATA write with their word (the model's reading, log 2). -/
def Obligations.DataWriteReachesTheWindow : Prop :=
  ∀ (c : DataCycle) (w : Word) (s : State), c.selected = true → Open s c.port →
    let x := s.port c.port
    let a := x.writePtr.toNat
    let done := fun t : State => Host.Outcome.next (φ := Fault) (ρ := Refusal)
      (t.setPort c.port (afterWrite (t.port c.port) c.advance))
    let stored := fun st : Staging => s.setPort c.port { x with staging := st }
    (a = 0x010 → exec (.stagingWrite c w) s = done ((stored { x.staging with command := w }).commit c.port))
    ∧ (a = 0x011 → exec (.stagingWrite c w) s = done (stored { x.staging with channel := w }))
    ∧ (a = 0x012 → exec (.stagingWrite c w) s = done (stored { x.staging with tag := w }))
    ∧ (a = 0x013 → exec (.stagingWrite c w) s = done (stored { x.staging with paramA := w }))
    ∧ (a = 0x014 → exec (.stagingWrite c w) s = done (stored { x.staging with paramB := w }))
    ∧ (a = 0x015 → exec (.stagingWrite c w) s = done (stored { x.staging with settings := w }))
    ∧ (a = 0x016 → exec (.stagingWrite c w) s = done (stored { x.staging with config1 := w }))
    ∧ (a = 0x017 → exec (.stagingWrite c w) s = done (stored { x.staging with config2 := w }))
    ∧ (a = 0x018 → exec (.stagingWrite c w) s = done (stored { x.staging with config3 := w }))
    ∧ (a = 0x02F → exec (.stagingWrite c w) s = done (s.acknowledge c.port w))
    ∧ ((a < 0x010 ∨ (0x018 < a ∧ a ≠ 0x02F)) → exec (.stagingWrite c w) s = done s)
    ∧ exec (.convert c) s = exec (.stagingWrite c 1) s ∧ exec (.watch c) s = exec (.stagingWrite c 2) s
    ∧ exec (.cancel c) s = exec (.stagingWrite c 3) s ∧ exec (.claim c) s = exec (.stagingWrite c 4) s
    ∧ exec (.release c) s = exec (.stagingWrite c 5) s ∧ exec (.configure c) s = exec (.stagingWrite c 6) s
    ∧ exec (.quiet c) s = exec (.stagingWrite c 7) s ∧ exec (.commitBadKind c w) s = exec (.stagingWrite c w) s
    ∧ exec (.acknowledgement c w) s = exec (.stagingWrite c w) s

/-- A DATA read (R153): a record's first word always takes a new snapshot, another word is driven from the buffer if it
holds the same record's snapshot and takes a new one otherwise; a staging word is read directly, and everywhere else
0000h is read. Nothing but the buffer, the pointers and PxD changes; the event record's flags are said elsewhere. Each record
stands at its addresses in the window map of 11.1 (R161). -/
def Obligations.DataReadGoesThroughTheReadBuffer : Prop :=
  ((∀ k : Fin 4, windowTarget (BitVec.ofNat 9 (0x000 + k.val)) = .record .portStatus k.val)
    ∧ windowTarget 0x004 = .record .event 0
    ∧ windowTarget 0x005 = .record .tick 0 ∧ windowTarget 0x006 = .record .tick 1
    ∧ windowTarget 0x007 = .record .identity 0
    ∧ (∀ k : Fin 9, windowTarget (BitVec.ofNat 9 (0x010 + k.val)) = .staging k.val)
    ∧ (∀ k : Fin 15, windowTarget (BitVec.ofNat 9 (0x020 + k.val)) = .record .responseHead k.val)
    ∧ windowTarget 0x02F = .ackWord
    ∧ (∀ (c : Channel) (k : Fin 8),
        windowTarget (BitVec.ofNat 9 (0x040 + 8 * c.val + k.val)) = .record (.result c) k.val
        ∧ windowTarget (BitVec.ofNat 9 (0x0C0 + 8 * c.val + k.val)) = .record (.channel c) k.val)
    ∧ (∀ k : Fin 16, windowTarget (BitVec.ofNat 9 (0x140 + k.val)) = .record .pendingOrder k.val)
    ∧ (∀ (i : SlotNo) (k : Fin 6), windowTarget (BitVec.ofNat 9 (0x180 + 6 * i.val + k.val)) = .record (.slot i) k.val)
    ∧ (∀ a : BitVec 9, (0x008 ≤ a.toNat ∧ a.toNat ≤ 0x00F) ∨ (0x019 ≤ a.toNat ∧ a.toNat ≤ 0x01F)
        ∨ (0x030 ≤ a.toNat ∧ a.toNat ≤ 0x03F) ∨ (0x150 ≤ a.toNat ∧ a.toNat ≤ 0x17F) ∨ 0x1C8 ≤ a.toNat →
        windowTarget a = .unused))
  ∧ ∀ (p : Port) (advance : Bool) (s : State), Open s p →
    let x := s.port p
    let read := exec (.snapshot p true (if advance then .dataAdvance else .data)) s
    let fresh := fun name => { record := name, words := s.recordWords p name : Snapshot }
    (∀ (name : RecordName) (k : Nat), windowTarget x.readPtr = .record name k → name ≠ .event →
      ((k = 0 ∨ x.buffer = none ∨ (∃ b, x.buffer = some b ∧ b.record ≠ name)) →
        read = .next (s.setPort p
          (afterRead { x with buffer := some (fresh name) } advance ((s.recordWords p name).getD k 0))))
      ∧ (∀ b, k ≠ 0 → x.buffer = some b → b.record = name →
        read = .next (s.setPort p (afterRead x advance (b.words.getD k 0)))))
    ∧ (∀ k : Nat, windowTarget x.readPtr = .staging k →
        read = .next (s.setPort p (afterRead x advance (x.staging.get k))))
    ∧ ((windowTarget x.readPtr = .ackWord ∨ windowTarget x.readPtr = .unused) →
        read = .next (s.setPort p (afterRead x advance 0)))

/-- EVENT_RECORD_READ with the read pointer at 004h returns the six flags, each at its bit, and clears exactly the flags
returned, which are all that were set (R157); the SNAPSHOT of a DATA access at 004h is the same read (R153). -/
def Obligations.EventRecordReadClearsWhatItReturns : Prop :=
  ∀ (c : DataCycle) (s : State), c.selected = true → Open s c.port → (s.port c.port).readPtr = 0x004 →
    let x := s.port c.port
    let f := x.flags
    ∃ w : Word,
      exec (.eventRecordRead c) s = .next (s.setPort c.port
        (afterRead { x with
          buffer := some { record := .event, words := [w] }
          flags := { tap := false, claimLapsed := false, earlyStrobe := false, ackStale := false, busFault := false
                     quietLapsed := false } } c.advance w))
      ∧ exec (.snapshot c.port true (if c.advance then .dataAdvance else .data)) s = exec (.eventRecordRead c) s
      ∧ w.getLsbD 0 = f.tap ∧ w.getLsbD 1 = f.claimLapsed ∧ w.getLsbD 2 = f.earlyStrobe ∧ w.getLsbD 3 = f.ackStale
      ∧ w.getLsbD 4 = f.busFault ∧ w.getLsbD 5 = f.quietLapsed ∧ w.toNat < 64

/-- A cycle closed too early (R150): EARLY_STROBE is set, the pointers stand, a write stores nothing, and a read has driven
FFFFh; a DATA read that needs a snapshot has taken it all the same, and it clears no flag. -/
def Obligations.EarlyStrobeDiscardsTheCycle : Prop :=
  ∀ (p : Port) (access : Access) (s : State), Open s p →
    let x := s.port p
    let early := { x.flags with earlyStrobe := true }
    exec (.earlyStrobe p true access false) s = .next (s.setPort p { x with flags := early, dataOut := none })
    ∧ (access = .control ∨ access = .pointer →
        exec (.earlyStrobe p true access true) s = .next (s.setPort p { x with flags := early, dataOut := some 0xFFFF }))
    ∧ (access = .data ∨ access = .dataAdvance →
        (∀ (name : RecordName) (k : Nat), windowTarget x.readPtr = .record name k →
          (k = 0 ∨ x.buffer = none ∨ (∃ b, x.buffer = some b ∧ b.record ≠ name)) →
          exec (.earlyStrobe p true access true) s = .next (s.setPort p { x with
            flags := early, dataOut := some 0xFFFF
            buffer := some { record := name, words := s.recordWords p name } }))
        ∧ ((∀ (name : RecordName) (k : Nat), windowTarget x.readPtr = .record name k →
              k ≠ 0 ∧ ∃ b, x.buffer = some b ∧ b.record = name) →
            exec (.earlyStrobe p true access true) s =
              .next (s.setPort p { x with flags := early, dataOut := some 0xFFFF })))

/-- PxATN_N is asserted exactly while a set flag is enabled or the QUEUE enable is on with a record in the queue, and never while
the port is held in reset (R158). The reference oscillator runs exactly in REF, that of the current sensor input exactly in
SENSE, and none in IDLE, HELD and RATIO_WAIT, so at most one runs (R95). OSCMON is low while none runs and at the level of the
oscillation while one does (R96; that level is counted by half cycles, log 6). In each state of the controller and each half
of a bit, XCL and XDA are pulled low or released as the table of 7.6 says (R112, R120 to R125): XCL is pulled low exactly in
the low half of a clocked bit, acknowledge, RESTART or STOP; XDA exactly in START, in a bit sent as 0, in the controller's own
acknowledge of a byte that is not the last of the read count, after the repeated START, and in STOP until its release. That
these outputs are functions of the state is DEDUCED (log 19). -/
def Obligations.OutputPinsFollowTheState : Prop :=
  ∀ s : State,
    (∀ p : Port,
      let x := s.port p
      s.attention p = true ↔
        Open s p ∧
          ((x.flags.tap = true ∧ x.control.getLsbD 2 = true) ∨ (x.flags.claimLapsed = true ∧ x.control.getLsbD 3 = true)
            ∨ (x.flags.earlyStrobe = true ∧ x.control.getLsbD 4 = true)
            ∨ (x.flags.ackStale = true ∧ x.control.getLsbD 5 = true)
            ∨ (x.flags.busFault = true ∧ x.control.getLsbD 6 = true)
            ∨ (x.flags.quietLapsed = true ∧ x.control.getLsbD 7 = true)
            ∨ (x.control.getLsbD 8 = true ∧ x.queue ≠ [])))
    ∧ (s.oscillator = .reference ↔ ∃ cur, s.converter.state = .ref cur)
    ∧ (∀ k, s.oscillator = .sensor k ↔ ∃ cur, s.converter.state = .sense cur ∧ cur.sensorInput = k)
    ∧ (s.oscillator = .none ↔ s.converter.state.counting = false)
    ∧ (s.oscillator = .none → s.oscmon = .low)
    ∧ (s.oscillator ≠ .none → s.oscmon = s.converter.wave)
    ∧ (s.bus.xclPulled, s.bus.xdaPulled) = (match s.bus.control with
      | .idle => (false, false)
      | .waitFree => (false, false)
      | .start => (false, true)
      | .sendByte y i half => (decide (half = .low), !(sentByte s.bus.carried y).getMsbD i.val)
      | .ackIn _ half _ => (decide (half = .low), false)
      | .recvByte _ half _ => (decide (half = .low), false)
      | .ackOut half => (decide (half = .low), decide (s.bus.received.length < s.bus.carried.readCount))
      | .restart (.clocked half) => (decide (half = .low), false)
      | .restart .pulled => (false, true)
      | .stop (.clocked half) _ => (decide (half = .low), true)
      | .stop .released _ => (false, false)
      | .stop .overdue _ => (false, false)
      | .backoff _ => (false, false))

/-- The event flags and the Read Buffer of a port are kept by everything but the cycles and resets that the rules name: a flag
that is set stays set until its port's event record is read or a reset, and the buffer changes at a DATA read or a reset of
its own port alone (R80, R153, R157). -/
def Obligations.FlagsAndReadBufferAreKept : Prop :=
  ∀ (i : Instr) (s t : State) (p : Port), exec i s = .next t →
    (∀ f : Flag, (s.port p).flags.get f = true →
      (match i with
       | .snapshot q _ access => q ≠ p ∨ access = .control ∨ access = .pointer ∨ (s.port p).readPtr ≠ 0x004
       | .eventRecordRead c => c.port ≠ p ∨ (s.port p).readPtr ≠ 0x004
       | .portReset q => q ≠ p
       | .resetAction q _ _ => q ≠ p
       | .controlWrite q _ w => q ≠ p ∨ w.getLsbD 15 = false
       | .deviceReset _ => False
       | _ => True) →
      (t.port p).flags.get f = true)
    ∧ ((match i with
        | .snapshot q _ access => q ≠ p ∨ access = .control ∨ access = .pointer
        | .eventRecordRead c => c.port ≠ p
        | .earlyStrobe q _ _ _ => q ≠ p
        | .portReset q => q ≠ p
        | .resetAction q _ _ => q ≠ p
        | .controlWrite q _ w => q ≠ p ∨ w.getLsbD 15 = false
        | .deviceReset _ => False
        | _ => True) →
      (t.port p).buffer = (s.port p).buffer)

/-- No cycle and no reset of one port changes anything the other port holds, apart from the commit of a CONFIGURE with enable
OFF, of which another statement speaks (10_host_ports.md, opening; R160). -/
def Obligations.PortsAreIndependent : Prop :=
  ∀ (i : Instr) (s t : State) (p : Port), exec i s = .next t →
    (match i with
     | .convert c | .watch c | .cancel c | .claim c | .release c | .quiet c | .eventRecordRead c => c.port = p
     | .configure c =>
       c.port = p ∧ ((s.port p).writePtr ≠ 0x010 ∨ (s.port p).staging.settings.getLsbD 0 = true)
     | .commitBadKind c w | .acknowledgement c w | .stagingWrite c w =>
       c.port = p ∧ (w ≠ 6 ∨ (s.port p).writePtr ≠ 0x010 ∨ (s.port p).staging.settings.getLsbD 0 = true)
     | .controlWrite q _ _ | .resetAction q _ _ | .pointerWrite q _ _ => q = p
     | .snapshot q _ _ => q = p
     | .earlyStrobe q _ _ _ => q = p
     | .portReset q | .portResetRelease q => q = p
     | _ => False) →
    t.port (peer p) = s.port (peer p)

/-- The words of the window's records hold their fields at the places of chapter 11 (R161), with every other bit 0: the Result
Table, Channel Table and slot views, the head of the queue, all zero when there is none, the port status, the tick, the
identity 6101h, and the pending order, which is the channels of the list and then FFFFh. A port's result and channel records
are those of the channel, and its slot records and its head those of its own slot and its own queue (R15, R39, R71, R82).
Submit codes, statuses, slot states, dispositions and sources have the codes of 11.6. -/
def Obligations.RecordWordsHoldTheirFields : Prop :=
  (∀ (s : State) (p : Port),
    (∀ c : Channel, s.recordWords p (.result c) = resultWords s.results[c]
      ∧ s.recordWords p (.channel c) = s.channelWords p c)
    ∧ (∀ i : SlotNo, s.recordWords p (.slot i) = slotWords (s.port p).slots[i])
    ∧ s.recordWords p .responseHead = responseHeadWords (s.port p).queue.head?
    ∧ s.recordWords p .event = [(s.port p).flags.word])
  ∧ (∀ e : ResultEntry, ∃ w0 : Word,
    resultWords e = [w0, e.part.value, e.part.sequence, e.part.generation.setWidth 16, e.part.startStamp.setWidth 16,
      e.part.startStamp.extractLsb' 16 16, e.part.endStamp.setWidth 16, e.part.endStamp.extractLsb' 16 16]
    ∧ w0.getLsbD 0 = e.valid ∧ w0.getLsbD 1 = e.reserved ∧ w0.extractLsb' 2 2 = 0
    ∧ w0.extractLsb' 4 4 = e.part.restarts ∧ (w0.extractLsb' 8 8).toNat = e.part.status.code)
  ∧ (∀ (s : State) (p : Port) (c : Channel), ∃ w0 : Word, ∃ w1 w2 w3 : Word,
    s.channelWords p c = [w0, w1, w2, w3, s.channels[c].expiry.setWidth 16, s.channels[c].expiry.extractLsb' 16 16, 0, 0]
    ∧ w0.getLsbD 0 = !isLocal c ∧ w0.getLsbD 1 = s.channels[c].enable ∧ w0.getLsbD 2 = s.channels[c].round
    ∧ w0.getLsbD 4 = s.results[c].reserved ∧ w0.getLsbD 7 = false
    ∧ (w0.extractLsb' 5 2).toNat =
        (if s.channels[c].holder = none then 0 else if s.channels[c].holder = some p then 1 else 2)
    ∧ w0.extractLsb' 8 8 = s.channels[c].generation
    ∧ (match s.channels[c].fields with
       | .localKind input n clock =>
         w0.getLsbD 3 = decide (clock = .fast) ∧ w1 = n ∧ w2.toNat = input.val ∧ w3 = 0
       | .remoteKind address settle limit =>
         w0.getLsbD 3 = false ∧ w1 = address.setWidth 16 ∧ w2 = settle.setWidth 16 ∧ w3 = limit.setWidth 16))
  ∧ (∀ x : Slot, ∃ w0 w1 : Word,
    slotWords x = [w0, w1, x.tag, x.nextDue.setWidth 16, x.joinStamp.setWidth 16, x.joinStamp.extractLsb' 16 16]
    ∧ w0.toNat = x.state.code + 16 * (if x.kind = .watch then 1 else 0)
    ∧ w1.toNat = x.channel.val + 256 * x.missed.toNat)
  ∧ (∀ r : ResponseRecord, ∃ w0 : Word, ∃ part : List Word,
    responseHeadWords (some r) = [w0, r.tag, r.version, r.coalesced, r.missed.setWidth 16] ++ part ++ [0, 0]
    ∧ w0.toNat = r.disposition.code + 4 * (if r.final = true then 1 else 0) + 8 * r.source.code
        + 32 * (if r.kind = .watch then 1 else 0) + 256 * r.slot.val + 4096 * r.channel.val
    ∧ (r.part = none → part = List.replicate 8 0)
    ∧ (∀ q, r.part = some q → ∃ w6 : Word,
        part = [q.value, w6, q.sequence, q.generation.setWidth 16, q.startStamp.setWidth 16,
          q.startStamp.extractLsb' 16 16, q.endStamp.setWidth 16, q.endStamp.extractLsb' 16 16]
        ∧ w6.toNat = q.status.code + 256 * q.restarts.toNat))
  ∧ responseHeadWords none = List.replicate 15 0
  ∧ (∀ (s : State) (p : Port),
      let x := s.port p
      (x.queue.length ≤ 12 → s.pendingList.length ≤ 16 →
        ∃ w0 w1 w2 w3 : Word, s.recordWords p .portStatus = [w0, w1, w2, w3]
          ∧ w0.getLsbD 0 = decide (s.timebase.startState = .running) ∧ w0.getLsbD 1 = decide (p = .b)
          ∧ w0.getLsbD 2 = x.quietEnd.isSome ∧ w0.getLsbD 3 = (s.portA.quietEnd.isSome || s.portB.quietEnd.isSome)
          ∧ w0.toNat < 16
          ∧ w1.toNat = x.submitCode.code + 256 * x.submitCount.toNat
          ∧ w2.toNat = (match x.submitSlot with | some i => i.val | none => 15) + 256 * x.queue.length
          ∧ w3.toNat = s.pendingList.length)
      ∧ s.recordWords p .tick = [s.timebase.tick.setWidth 16, s.timebase.tick.extractLsb' 16 16]
      ∧ s.recordWords p .identity = [0x6101]
      ∧ (s.pendingList.length ≤ 16 →
          (s.recordWords p .pendingOrder).length = 16
          ∧ ∀ i : Nat, i < 16 → (s.recordWords p .pendingOrder)[i]? =
              some (match s.pendingList[i]? with | some e => BitVec.ofNat 16 e.channel.val | none => 0xFFFF)))
  ∧ [SubmitCode.accepted, .notStarted, .badKind, .badChannel, .channelOff, .badParam, .noSlot, .badSlot, .heldByPeer,
      .notHolder, .notHeld, .channelBusy, .configRange, .addressInUse, .none].map SubmitCode.code =
      [0x00, 0x01, 0x02, 0x03, 0x04, 0x05, 0x06, 0x07, 0x08, 0x09, 0x0A, 0x0B, 0x0C, 0x0D, 0xFF]
  ∧ [Status.ok, .overRange, .noSignal, .spanOverflow, .spanShort, .remoteAbsent, .remoteRefused, .remoteTimeout,
      .remoteFault, .remoteDataInvalid, .busLost, .busHoldTimeout, .busStuck].map Status.code = List.range 13
  ∧ [SlotState.free, .waiting, .dormant, .finished].map SlotState.code = [0, 1, 2, 3]
  ∧ [Disposition.result, .cancelled, .channelOff].map Disposition.code = [1, 2, 3]
  ∧ [Source.none, .conversion, .table].map Source.code = [0, 1, 2]

/-! ## Commits -/

/-- While the Timebase is STARTING every commit is refused with NOT_STARTED, and once it is RUNNING a command word that is
not 1 to 7 is refused with BAD_KIND; nothing but the command word and the submit status changes (R19, R20). -/
def Obligations.CommitChecksStartThenKind : Prop :=
  ∀ (c : DataCycle) (w : Word) (s : State), c.selected = true → Open s c.port → (s.port c.port).writePtr = 0x010 →
    (s.timebase.startState = .starting →
      exec (.convert c) s = .next (answered s c 1 .notStarted none)
      ∧ exec (.watch c) s = .next (answered s c 2 .notStarted none)
      ∧ exec (.cancel c) s = .next (answered s c 3 .notStarted none)
      ∧ exec (.claim c) s = .next (answered s c 4 .notStarted none)
      ∧ exec (.release c) s = .next (answered s c 5 .notStarted none)
      ∧ exec (.configure c) s = .next (answered s c 6 .notStarted none)
      ∧ exec (.quiet c) s = .next (answered s c 7 .notStarted none)
      ∧ exec (.commitBadKind c w) s = .next (answered s c w .notStarted none))
    ∧ (s.timebase.startState = .running → (w.toNat = 0 ∨ 7 < w.toNat) →
        exec (.commitBadKind c w) s = .next (answered s c w .badKind none))

/-- The submit status (R21): after a port reset or a device reset the count is 0, the code NONE and the slot none; no
commit's outcome is NONE; and the first commit after the reset brings the count to 1. -/
def Obligations.NoneIsTheCodeOfNoCommit : Prop :=
  ∀ (p : Port) (s : State),
    (∃ t, exec (.portReset p) s = .next t
      ∧ (t.port p).submitCount = 0 ∧ (t.port p).submitCode = .none ∧ (t.port p).submitSlot = none)
    ∧ (∀ cause, ∃ t, exec (.deviceReset cause) s = .next t
      ∧ (t.port p).submitCount = 0 ∧ (t.port p).submitCode = .none ∧ (t.port p).submitSlot = none)
    ∧ (∀ (c : DataCycle) (w : Word), c.port = p → c.selected = true → Open s p → (s.port p).writePtr = 0x010 →
        ∃ t, exec (.stagingWrite c w) s = .next t
          ∧ (t.port p).submitCode ≠ .none ∧ (t.port p).submitCount = (s.port p).submitCount + 1
          ∧ ((s.port p).submitCount = 0 → (t.port p).submitCount = 1))

/-- CLAIM (R6): channel, duration and holder are checked in this order; an accepted CLAIM makes this port the holder until
the tick of the commit plus the duration, with one deadline there; a refused one changes nothing but the submit status. -/
def Obligations.ClaimIsDecidedInOrder : Prop :=
  ∀ (c : DataCycle) (s : State), CommitReady s c →
    let st := (s.port c.port).staging
    (16 ≤ st.channel.toNat → exec (.claim c) s = .next (answered s c 4 .badChannel none))
    ∧ ∀ ch : Channel, st.channel.toNat = ch.val →
      ((st.paramA.toNat < 1 ∨ 4096 < st.paramA.toNat) → exec (.claim c) s = .next (answered s c 4 .badParam none))
      ∧ (1 ≤ st.paramA.toNat → st.paramA.toNat ≤ 4096 →
        (s.channels[ch].holder = some (peer c.port) → exec (.claim c) s = .next (answered s c 4 .heldByPeer none))
        ∧ ((s.channels[ch].holder = none ∨ s.channels[ch].holder = some c.port) →
          let expiry := s.timebase.tick + st.paramA.setWidth 32
          exec (.claim c) s = .next (answered
            (withDeadline (withChannel s ch { s.channels[ch] with holder := some c.port, expiry := expiry })
              (.claim ch) expiry) c 4 .accepted none)))

/-- Two CLAIMs for one unclaimed channel, one on each port, in either order (R7): the first taken is accepted and its port
is the holder in both ports' channel views, the second is refused with HELD_BY_PEER; and a CLAIM that meets the holder's renewal is refused in both
orders, the renewal accepted. -/
def Obligations.TheFirstOfTwoClaimsWins : Prop :=
  ∀ (p : Port) (s : State) (ch : Channel) (adv adv' : Bool),
    let c : DataCycle := { port := p, selected := true, advance := adv }
    let c' : DataCycle := { port := peer p, selected := true, advance := adv' }
    let good := fun q : Port =>
      (s.port q).staging.channel.toNat = ch.val
      ∧ 1 ≤ (s.port q).staging.paramA.toNat ∧ (s.port q).staging.paramA.toNat ≤ 4096
    CommitReady s c → CommitReady s c' → good p → good (peer p) →
      (s.channels[ch].holder = none → ∃ t u, exec (.claim c) s = .next t ∧ exec (.claim c') t = .next u
        ∧ (u.port p).submitCode = .accepted ∧ (u.port (peer p)).submitCode = .heldByPeer
        ∧ u.channels[ch].holder = some p
        ∧ ((u.channelWords p ch).getD 0 0).extractLsb' 5 2 = 1
        ∧ ((u.channelWords (peer p) ch).getD 0 0).extractLsb' 5 2 = 2)
      ∧ (s.channels[ch].holder = some p →
        (∃ t u, exec (.claim c) s = .next t ∧ exec (.claim c') t = .next u
          ∧ (u.port p).submitCode = .accepted ∧ (u.port (peer p)).submitCode = .heldByPeer
          ∧ u.channels[ch].holder = some p)
        ∧ (∃ t u, exec (.claim c') s = .next t ∧ exec (.claim c) t = .next u
          ∧ (u.port p).submitCode = .accepted ∧ (u.port (peer p)).submitCode = .heldByPeer
          ∧ u.channels[ch].holder = some p))

/-- RELEASE (R8): channel and holder are checked in this order; an accepted RELEASE leaves no holder, expiry 0 and no
deadline, and sets no flag; a refused one changes nothing but the submit status. -/
def Obligations.ReleaseIsDecidedInOrder : Prop :=
  ∀ (c : DataCycle) (s : State), CommitReady s c →
    let st := (s.port c.port).staging
    (16 ≤ st.channel.toNat → exec (.release c) s = .next (answered s c 5 .badChannel none))
    ∧ ∀ ch : Channel, st.channel.toNat = ch.val →
      (s.channels[ch].holder ≠ some c.port → exec (.release c) s = .next (answered s c 5 .notHeld none))
      ∧ (s.channels[ch].holder = some c.port → exec (.release c) s = .next (answered
          (without (withChannel s ch { s.channels[ch] with holder := none, expiry := 0 }) (.claim ch))
          c 5 .accepted none))

/-- CLAIM_EXPIRY (R9): the claim ends and CLAIM_LAPSED of its holder's port is set; the other port's flags stand. A RELEASE
taken after it is refused with NOT_HELD; taken before it, the RELEASE leaves no expiry to occur. A renewal taken before it
keeps the claim with its new expiry and leaves the old one nothing to do; taken after it, it is a new claim. -/
def Obligations.ClaimExpiryEndsTheClaim : Prop :=
  ∀ (s : State) (ch : Channel) (p : Port), .claim ch ∈ s.timebase.delivered → s.channels[ch].holder = some p →
    exec (.claimExpiry ch) s = .next (flagged
      (without (withChannel s ch { s.channels[ch] with holder := none, expiry := 0 }) (.claim ch))
      p (fun f => { f with claimLapsed := true }))
    ∧ ∀ adv : Bool,
      let c : DataCycle := { port := p, selected := true, advance := adv }
      CommitReady s c → (s.port p).staging.channel.toNat = ch.val →
        (∃ t u, exec (.claimExpiry ch) s = .next t ∧ exec (.release c) t = .next u
          ∧ (u.port p).flags.claimLapsed = true ∧ (u.port p).submitCode = .notHeld
          ∧ u.channels[ch].holder = none ∧ u.channels[ch].expiry = 0)
        ∧ (∃ t, exec (.release c) s = .next t ∧ exec (.claimExpiry ch) t = .next t
          ∧ (t.port p).flags = (s.port p).flags ∧ (t.port p).submitCode = .accepted
          ∧ t.channels[ch].holder = none ∧ t.channels[ch].expiry = 0)
        ∧ (let d := (s.port p).staging.paramA
           let expiry := s.timebase.tick + d.setWidth 32
           1 ≤ d.toNat → d.toNat ≤ 4096 →
            (∃ t, exec (.claim c) s = .next t ∧ exec (.claimExpiry ch) t = .next t
              ∧ (t.port p).flags = (s.port p).flags ∧ (t.port p).submitCode = .accepted
              ∧ t.channels[ch].holder = some p ∧ t.channels[ch].expiry = expiry)
            ∧ (∃ t u, exec (.claimExpiry ch) s = .next t ∧ exec (.claim c) t = .next u
              ∧ (u.port p).flags.claimLapsed = true ∧ (u.port p).submitCode = .accepted
              ∧ u.channels[ch].holder = some p ∧ u.channels[ch].expiry = expiry))

/-- CONFIGURE with enable ON (R11, R12): channel, holder, reservation, ranges and address are checked in this order;
an accepted one replaces every configuration field of the kind, raises the generation by 1 and changes nothing else. -/
def Obligations.ConfigureOnIsDecidedInOrder : Prop :=
  ∀ (c : DataCycle) (s : State), CommitReady s c → (s.port c.port).staging.settings.getLsbD 0 = true →
    let st := (s.port c.port).staging
    let result := exec (.configure c) s
    let refused := fun code => Host.Outcome.next (φ := Fault) (ρ := Refusal) (answered s c 6 code none)
    let setTo := fun (ch : Channel) fields => Host.Outcome.next (φ := Fault) (ρ := Refusal) (answered
      (withChannel s ch { s.channels[ch] with
        enable := true, round := st.settings.getLsbD 1, fields := fields, generation := s.channels[ch].generation + 1 })
      c 6 .accepted none)
    (16 ≤ st.channel.toNat → result = refused .badChannel)
    ∧ ∀ ch : Channel, st.channel.toNat = ch.val →
      (s.channels[ch].holder ≠ some c.port → result = refused .notHolder)
      ∧ (s.channels[ch].holder = some c.port →
        (s.results[ch].reserved = true → result = refused .channelBusy)
        ∧ (s.results[ch].reserved = false →
          (ch.val < 8 →
            ((st.config1.toNat < 16 ∨ 7 < st.config2.toNat) → result = refused .configRange)
            ∧ (16 ≤ st.config1.toNat → ∀ input : Fin 8, st.config2.toNat = input.val →
              result = setTo ch (.localKind input st.config1 (if st.settings.getLsbD 2 = true then .fast else .slow))))
          ∧ (8 ≤ ch.val →
            let legal := 0x08 ≤ st.config1.toNat ∧ st.config1.toNat ≤ 0x77 ∧ 1 ≤ st.config2.toNat
              ∧ st.config2.toNat ≤ 255 ∧ st.config3.toNat ≤ 15
            let taken := ∃ d : Channel, d ≠ ch ∧ s.channels[d].enable = true
              ∧ s.channels[d].fields.address = some (st.config1.setWidth 7)
            (¬ legal → result = refused .configRange)
            ∧ (legal → taken → result = refused .addressInUse)
            ∧ (legal → ¬ taken →
              result = setTo ch (.remoteKind (st.config1.setWidth 7) (st.config2.setWidth 8) (st.config3.setWidth 4))))))

/-- CONFIGURE with enable OFF (R11, R13, R34, R57): channel, holder and reservation are checked in this order and no range;
an accepted one turns enable OFF, raises the generation by 1, withdraws the channel's pending entry, and ends every WAITING
or DORMANT slot of either port on the channel with CHANNEL_OFF, in rising order of slot number. -/
def Obligations.ConfigureOffWithdrawsTheChannel : Prop :=
  ∀ (c : DataCycle) (s : State), CommitReady s c → (s.port c.port).staging.settings.getLsbD 0 = false →
    let st := (s.port c.port).staging
    let result := exec (.configure c) s
    let refused := fun code => Host.Outcome.next (φ := Fault) (ρ := Refusal) (answered s c 6 code none)
    (16 ≤ st.channel.toNat → result = refused .badChannel)
    ∧ ∀ ch : Channel, st.channel.toNat = ch.val →
      let ends := fun (p : Port) (i : SlotNo) =>
        decide ((s.port p).slots[i].channel = ch) && (s.port p).slots[i].running
      let ended := fun p => withdrawn (s.port p) ((List.finRange 12).filter (ends p))
      let dropped := fun i : DeadlineItem =>
        match i with
        | .watchDue p j => ends p j && decide ((s.port p).slots[j].kind = .watch)
        | _ => false
      (s.channels[ch].holder ≠ some c.port → result = refused .notHolder)
      ∧ (s.channels[ch].holder = some c.port → s.results[ch].reserved = true → result = refused .channelBusy)
      ∧ (s.channels[ch].holder = some c.port → s.results[ch].reserved = false →
        result = .next (answered
          { withChannel s ch { s.channels[ch] with enable := false, generation := s.channels[ch].generation + 1 } with
            pendingList := s.pendingList.filter fun e => decide (e.channel ≠ ch)
            portA := ended .a, portB := ended .b
            timebase := { s.timebase with
              deadlines := s.timebase.deadlines.filter fun d => !dropped d.item
              delivered := s.timebase.delivered.filter fun i => !dropped i } }
          c 6 .accepted none))

/-- CONVERT (R25, R43, R44): channel, enable and a FREE slot are checked in this order; the lowest-numbered FREE slot is
given, and it is served from the table at once when the reuse test passes, and otherwise joins the channel's pending entry
or places a new one at the tail. -/
def Obligations.ConvertIsDecidedInOrder : Prop :=
  ∀ (c : DataCycle) (s : State), CommitReady s c →
    let x := s.port c.port
    let st := x.staging
    (16 ≤ st.channel.toNat → exec (.convert c) s = .next (answered s c 1 .badChannel none))
    ∧ ∀ ch : Channel, st.channel.toNat = ch.val →
      (s.channels[ch].enable = false → exec (.convert c) s = .next (answered s c 1 .channelOff none))
      ∧ (s.channels[ch].enable = true →
        (NoFree x → exec (.convert c) s = .next (answered s c 1 .noSlot none))
        ∧ ∀ i : SlotNo, LowestFree x i →
          let y : Slot := { freeSlotValues with kind := .convert, channel := ch, tag := st.tag, maxAge := st.paramB }
          (Reusable s ch st.paramB → exec (.convert c) s = .next (answered
            (s.setPort c.port (appended (withSlot x i { y with state := .finished })
              (resultRecord y i true .table 0 s.results[ch].part))) c 1 .accepted (some i)))
          ∧ (¬ Reusable s ch st.paramB → exec (.convert c) s = .next (answered
            ({ s with pendingList := requested s.pendingList ch { port := c.port, slot := i } }.setPort c.port
              (withSlot x i { y with state := .waiting, joinStamp := s.timebase.tick })) c 1 .accepted (some i))))

/-- WATCH (R26, R27): channel, enable, period and a FREE slot are checked in this order; the slot given is due one period
after the commit, with a deadline there, and its first conversion is requested as for CONVERT: served from the table it is
DORMANT with a notice queued, and otherwise it is WAITING. -/
def Obligations.WatchIsDecidedInOrder : Prop :=
  ∀ (c : DataCycle) (s : State), CommitReady s c →
    let x := s.port c.port
    let st := x.staging
    (16 ≤ st.channel.toNat → exec (.watch c) s = .next (answered s c 2 .badChannel none))
    ∧ ∀ ch : Channel, st.channel.toNat = ch.val →
      (s.channels[ch].enable = false → exec (.watch c) s = .next (answered s c 2 .channelOff none))
      ∧ (s.channels[ch].enable = true →
        (st.paramA.toNat < 8 → exec (.watch c) s = .next (answered s c 2 .badParam none))
        ∧ (8 ≤ st.paramA.toNat →
          (NoFree x → exec (.watch c) s = .next (answered s c 2 .noSlot none))
          ∧ ∀ i : SlotNo, LowestFree x i →
            let due := s.timebase.tick + st.paramA.setWidth 32
            let y : Slot := { freeSlotValues with
              kind := .watch, channel := ch, tag := st.tag, maxAge := st.paramB, period := st.paramA, nextDue := due }
            let s' := withDeadline s (.watchDue c.port i) due
            (Reusable s ch st.paramB → exec (.watch c) s = .next (answered
              (s'.setPort c.port (appended (withSlot x i { y with state := .dormant, noticeQueued := true })
                (resultRecord y i false .table 0 s.results[ch].part))) c 2 .accepted (some i)))
            ∧ (¬ Reusable s ch st.paramB → exec (.watch c) s = .next (answered
              ({ s' with pendingList := requested s.pendingList ch { port := c.port, slot := i } }.setPort c.port
                (withSlot x i { y with state := .waiting, joinStamp := s.timebase.tick })) c 2 .accepted (some i)))))

/-- CANCEL (R32, R33, R55, R78): a number above 11 and a slot that is FREE or FINISHED are refused with BAD_SLOT; a WAITING
slot leaves its waiter set, and an entry emptied by that leaves the list; a WATCH's due deadline is dropped; the slot is
FINISHED with one final CANCELLED record, its queued notice changed in place or a new record without a result part. -/
def Obligations.CancelEndsTheRequest : Prop :=
  ∀ (c : DataCycle) (s : State), CommitReady s c →
    let x := s.port c.port
    (12 ≤ x.staging.paramA.toNat → exec (.cancel c) s = .next (answered s c 3 .badSlot none))
    ∧ ∀ i : SlotNo, x.staging.paramA.toNat = i.val →
      let y := x.slots[i]
      let w : Waiter := { port := c.port, slot := i }
      let rest := fun ws : List Waiter => ws.filter fun v => decide (v ≠ w)
      let left : State :=
        { s with
          pendingList := s.pendingList.filterMap fun e =>
            if w ∈ e.waiters then (if rest e.waiters = [] then none else some { e with waiters := rest e.waiters })
            else some e
          inFlight := s.inFlight.map fun r => { r with waiters := rest r.waiters } }
      let s1 := if y.state = .waiting then left else s
      let s2 := if y.kind = .watch then without s1 (.watchDue c.port i) else s1
      let x1 := withSlot x i { y with state := .finished }
      ((y.state = .free ∨ y.state = .finished) → exec (.cancel c) s = .next (answered s c 3 .badSlot none))
      ∧ ((y.state = .waiting ∨ y.state = .dormant) →
        (y.noticeQueued = false → exec (.cancel c) s = .next (answered
          (s2.setPort c.port (appended x1 (endRecord y i .cancelled))) c 3 .accepted (some i)))
        ∧ (y.noticeQueued = true → exec (.cancel c) s = .next (answered
          (s2.setPort c.port (changed x1 i fun r =>
            { r with final := true, disposition := .cancelled, missed := y.missed })) c 3 .accepted (some i))))

/-- QUIET (R36, R58 to R62, R107): a duration above 1024 is refused with BAD_PARAM; 0 removes this port's window if it has one,
without a flag, and a HELD converter becomes IDLE if that was the last window; 1 to 1024 sets or replaces the window. Opening
the first window makes an IDLE converter HELD, leaves RATIO_WAIT alone, and discards the conversion in REF or SENSE: its record
leaves the In-Flight Set, its channel is unreserved with its result unwritten, its waiters return to the head of the list
with restarts one higher, joined with those of an entry placed meanwhile, and the converter is HELD with both counters 0 and
OSCMON low. -/
def Obligations.QuietIsDecidedAndActs : Prop :=
  ∀ (c : DataCycle) (s : State), CommitReady s c →
    let x := s.port c.port
    let d := x.staging.paramA
    (1024 < d.toNat → exec (.quiet c) s = .next (answered s c 7 .badParam none))
    ∧ (d.toNat = 0 →
      (x.quietEnd = none → exec (.quiet c) s = .next (answered s c 7 .accepted none))
      ∧ (x.quietEnd ≠ none → (s.port (peer c.port)).quietEnd ≠ none →
        exec (.quiet c) s = .next (answered (windowGone s c.port) c 7 .accepted none))
      ∧ (x.quietEnd ≠ none → (s.port (peer c.port)).quietEnd = none →
        exec (.quiet c) s =
          .next (answered { windowGone s c.port with converter := unheld s.converter } c 7 .accepted none)))
    ∧ (1 ≤ d.toNat → d.toNat ≤ 1024 → ¬ NoWindow s →
      exec (.quiet c) s =
        .next (answered (windowOpen s c.port (s.timebase.tick + d.setWidth 32)) c 7 .accepted none))
    ∧ (1 ≤ d.toNat → d.toNat ≤ 1024 → NoWindow s →
      let t := windowOpen s c.port (s.timebase.tick + d.setWidth 32)
      (s.converter.state = .idle →
        exec (.quiet c) s =
          .next (answered { t with converter := { s.converter with state := .held } } c 7 .accepted none))
      ∧ (∀ cur j, s.converter.state = .ratioWait cur j → exec (.quiet c) s = .next (answered t c 7 .accepted none))
      ∧ (∀ (cur : Current) (before after : List ConversionRecord) (r : ConversionRecord),
          (s.converter.state = .ref cur ∨ s.converter.state = .sense cur) →
          s.inFlight = before ++ r :: after → r.channel = cur.channel → (∀ q ∈ before, q.channel ≠ cur.channel) →
          exec (.quiet c) s = .next (answered
            { t with
              converter := { state := .held, cycleCounter := 0, spanCounter := 0, wave := .low }
              inFlight := before ++ after
              results := s.results.set cur.channel { s.results[cur.channel] with reserved := false }
              pendingList := requeued r s.pendingList } c 7 .accepted none)))

/-- QUIET_WINDOW_EXPIRY (R59, R62): the window is gone and QUIET_LAPSED of its port is set; the other port's flags stand,
and a HELD converter becomes IDLE if that was the last window. -/
def Obligations.QuietWindowExpiryLapses : Prop :=
  ∀ (s : State) (p : Port), .quietEnd p ∈ s.timebase.delivered → (s.port p).quietEnd ≠ none →
    let lapse := fun t : State => flagged t p fun f => { f with quietLapsed := true }
    ((s.port (peer p)).quietEnd ≠ none → exec (.quietWindowExpiry p) s = .next (lapse (windowGone s p)))
    ∧ ((s.port (peer p)).quietEnd = none →
      exec (.quietWindowExpiry p) s = .next (lapse { windowGone s p with converter := unheld s.converter }))

/-- DUE_EXPIRY (R29): next due advances by the period, with a new deadline there; a DORMANT slot requests a conversion, and
is served from the table by a notice or becomes WAITING; a WAITING slot requests nothing and counts a missed due, up to
255. -/
def Obligations.DueExpiryKeepsThePhase : Prop :=
  ∀ (s : State) (p : Port) (i : SlotNo), .watchDue p i ∈ s.timebase.delivered →
    let x := s.port p
    let y := x.slots[i]
    let due := y.nextDue + y.period.setWidth 32
    let s' := withDeadline s (.watchDue p i) due
    (y.state = .waiting → exec (.dueExpiry p i) s =
      .next (s'.setPort p (withSlot x i { y with nextDue := due, missed := oneMore y.missed })))
    ∧ (y.state = .dormant → y.kind = .watch →
      (¬ Reusable s y.channel y.maxAge → exec (.dueExpiry p i) s =
        .next ({ s' with pendingList := requested s.pendingList y.channel { port := p, slot := i } }.setPort p
          (withSlot x i { y with nextDue := due, state := .waiting, joinStamp := s.timebase.tick })))
      ∧ (Reusable s y.channel y.maxAge → y.noticeQueued = false → exec (.dueExpiry p i) s =
        .next (s'.setPort p (appended (withSlot x i { y with nextDue := due, noticeQueued := true })
          (resultRecord y i false .table y.missed s.results[y.channel].part))))
      ∧ (Reusable s y.channel y.maxAge → y.noticeQueued = true → exec (.dueExpiry p i) s =
        .next (s'.setPort p (changed (withSlot x i { y with nextDue := due }) i fun r =>
          { r with
            source := .table, part := some s.results[y.channel].part, missed := y.missed
            coalesced := oneMore r.coalesced }))))

/-- ACKNOWLEDGEMENT (R79, R80): the head record leaves when its version is the value written; its slot returns to FREE after
a final record, and after a notice keeps its state with notice queued no and missed 0. Any other value, and any value to an
empty queue, removes nothing and sets ACK_STALE. The version counter is unchanged. -/
def Obligations.AcknowledgementRemovesTheHead : Prop :=
  ∀ (c : DataCycle) (v : Word) (s : State), c.selected = true → Open s c.port → (s.port c.port).writePtr = 0x02F →
    let x := s.port c.port
    let done := fun y : PortState => Host.Outcome.next (φ := Fault) (ρ := Refusal)
      (s.setPort c.port (afterWrite y c.advance))
    let stale := { x with flags := { x.flags with ackStale := true } }
    (x.queue = [] → exec (.acknowledgement c v) s = done stale)
    ∧ ∀ (r : ResponseRecord) (rest : List ResponseRecord), x.queue = r :: rest →
      (r.version ≠ v → exec (.acknowledgement c v) s = done stale)
      ∧ (r.version = v → r.final = true → exec (.acknowledgement c v) s =
          done { x with queue := rest, slots := x.slots.set r.slot freeSlotValues })
      ∧ (r.version = v → r.final = false → exec (.acknowledgement c v) s =
          done { x with
            queue := rest
            slots := x.slots.set r.slot { x.slots[r.slot] with noticeQueued := false, missed := 0 } })

/-- One delivery (R28, R75, R76, R77): a CONVERT slot is FINISHED by a final record at the tail; a WATCH slot becomes
DORMANT with a notice at the tail, or with its queued notice changed in place, its coalesced count one higher. Each record
takes the version counter's next value (R74), and nothing but the slot, the queue and the counter changes. -/
def Obligations.DeliveryAppendsOrUpdates : Prop :=
  ∀ (s : State) (p : Port) (i : SlotNo) (source : Source) (part : ResultPart),
    let x := s.port p
    let y := x.slots[i]
    (y.kind = .convert → s.deliver p i source part =
      s.setPort p (appended (withSlot x i { y with state := .finished }) (resultRecord y i true source 0 part)))
    ∧ (y.kind = .watch → y.noticeQueued = false → s.deliver p i source part =
      s.setPort p (appended (withSlot x i { y with state := .dormant, noticeQueued := true })
        (resultRecord y i false source y.missed part)))
    ∧ (y.kind = .watch → y.noticeQueued = true → s.deliver p i source part =
      s.setPort p (changed (withSlot x i { y with state := .dormant }) i fun r =>
        { r with source := source, part := some part, missed := y.missed, coalesced := oneMore r.coalesced }))

/-! ## Conversions -/

/-- LOCAL_TAKE (R48, R50, R99): IDLE, with no window open, room for a local conversion, and a local entry whose channel is
not reserved, the converter takes the one nearest the head: the entry leaves the list, its record enters the In-Flight Set
with the tick and the channel's generation, the channel is reserved, the settings are held, the Cycle Counter is loaded
with 65536 − N and the Span Counter with 0, and REF begins, with the oscillation low by the model's choice (log 6). -/
def Obligations.LocalTakeBeginsTheReferencePhase : Prop :=
  ∀ (s : State) (before after : List PendingEntry) (e : PendingEntry) (input : Fin 8) (n : Word) (clock : SpanClock),
    s.converter.state = .idle → NoWindow s → s.inFlightOf .localEngine < 2 →
    s.pendingList = before ++ e :: after → e.channel.val < 8 → s.results[e.channel].reserved = false →
    (∀ d ∈ before, 8 ≤ d.channel.val ∨ s.results[d.channel].reserved = true) →
    (∀ d ∈ before, d.channel ≠ e.channel) →
    s.channels[e.channel].fields = .localKind input n clock →
      exec .localTake s = .next { s with
        pendingList := before ++ after
        inFlight := s.inFlight ++ [{ channel := e.channel, engine := .localEngine, waiters := e.waiters
                                     startStamp := s.timebase.tick, generation := s.channels[e.channel].generation
                                     restarts := e.restarts, outcome := none }]
        results := s.results.set e.channel { s.results[e.channel] with reserved := true }
        converter := { state := .ref { channel := e.channel, sensorInput := input, presetN := n, spanClock := clock
                                       round := s.channels[e.channel].round }
                       cycleCounter := BitVec.ofNat 16 (65536 - n.toNat), spanCounter := 0, wave := .low } }

/-- REFERENCE_PHASE_END, SPAN_OVERFLOW and what REF counts (R96, R97, R100, R101, R106). A half cycle changes the level of
OSCMON, and the one that brings it back to low adds 1 to the Cycle Counter; a period of the span clock adds 1 to the Span
Counter, 128 of FAST or 32 of SLOW a tick. The cycle that passes 65535 enters SENSE with Cycle Counter 0 when the Span Counter
holds 16 or more; with less, or when the Span Counter passes 65535, the conversion ends with SPAN_SHORT or SPAN_OVERFLOW,
value 0, the counters 0, OSCMON low and the converter IDLE. That a cycle is counted at OSCMON's return to low, that four FAST
periods make a SLOW one, and that REFERENCE_PHASE_END counts its edges first is the model's reading (logs 5, 6). -/
def Obligations.ReferencePhaseCountsAndEnds : Prop :=
  (∀ (s : State) (edges : List CountEdge),
    exec (.referencePhaseEnd edges) s = exec (.referencePhaseEnd []) (s.edges edges)
    ∧ s.edges edges =
      edges.foldl (fun t e => match e with | .halfCycle => t.halfCycle | .fastPeriod => t.fastPeriod) s)
  ∧ ∀ (s : State) (cur : Current), s.converter.state = .ref cur →
    let x := s.converter
    let sensing : State :=
      { s with converter := { state := .sense cur, cycleCounter := 0, spanCounter := x.spanCounter, wave := .low } }
    (x.wave = .low → s.halfCycle = { s with converter := { x with wave := .high } })
    ∧ (x.wave = .high → x.cycleCounter ≠ 0xFFFF →
      s.halfCycle = { s with converter := { x with wave := .low, cycleCounter := x.cycleCounter + 1 } })
    ∧ (x.wave = .high → x.cycleCounter = 0xFFFF →
      (16 ≤ x.spanCounter.toNat → s.halfCycle = sensing ∧ exec (.referencePhaseEnd []) s = .next sensing)
      ∧ (x.spanCounter.toNat < 16 →
        s.halfCycle = localFailed s cur .spanShort
        ∧ exec (.referencePhaseEnd []) s = .next (localFailed s cur .spanShort)))
    ∧ (SpanPeriodNext s cur.spanClock →
      (x.spanCounter ≠ 0xFFFF →
        s.fastPeriod = { onePeriod s with converter := { x with spanCounter := x.spanCounter + 1 } })
      ∧ (x.spanCounter = 0xFFFF →
        s.fastPeriod = localFailed (onePeriod s) cur .spanOverflow
        ∧ exec .spanOverflow s = .next (localFailed (onePeriod s) cur .spanOverflow)))
    ∧ (∀ k : Nat, x.wave = .low → x.cycleCounter.toNat + k ≤ 65535 →
      s.edges (List.replicate (2 * k) .halfCycle) =
        { s with converter := { x with cycleCounter := BitVec.ofNat 16 (x.cycleCounter.toNat + k) } })
    ∧ (∀ k : Nat, Runs s → periods s + k ≤ 128 → x.spanCounter.toNat + spanPeriodsIn s cur.spanClock k ≤ 65535 →
      let t := s.edges (List.replicate k .fastPeriod)
      t.converter =
        { x with spanCounter := BitVec.ofNat 16 (x.spanCounter.toNat + spanPeriodsIn s cur.spanClock k) }
      ∧ periods t = periods s + k)

/-- SENSING_PHASE_END, CYCLE_COUNTER_OVERFLOW and what SENSE counts (R96, R97, R102, R103, R104, R106). A full cycle of OSCMON
adds 1 to the Cycle Counter, and a period of the span clock takes 1 from the Span Counter. The cycle that passes 65535 ends
the conversion with OVER_RANGE. The period that brings the Span Counter to 0 ends it with NO_SIGNAL when no cycle was counted;
otherwise the job of the count M and the preset N is formed, which a free divider takes at once, an empty input holds, and an
occupied input makes the converter wait for in RATIO_WAIT. That a cycle is counted at OSCMON's return to low, that four FAST
periods make a SLOW one, and that SENSING_PHASE_END counts its edges first is the model's reading (logs 5, 6). -/
def Obligations.SensingPhaseCountsAndEnds : Prop :=
  (∀ (s : State) (edges : List CountEdge),
    exec (.sensingPhaseEnd edges) s = exec (.sensingPhaseEnd []) (s.edges edges))
  ∧ ∀ (s : State) (cur : Current), s.converter.state = .sense cur →
    let x := s.converter
    let m := x.cycleCounter
    let v := onePeriod s
    let both := fun t : State => s.fastPeriod = t ∧ exec (.sensingPhaseEnd []) s = .next t
    (x.wave = .low → s.halfCycle = { s with converter := { x with wave := .high } })
    ∧ (x.wave = .high → m ≠ 0xFFFF →
      s.halfCycle = { s with converter := { x with wave := .low, cycleCounter := m + 1 } })
    ∧ (x.wave = .high → m = 0xFFFF →
      s.halfCycle = localFailed s cur .overRange
      ∧ exec .cycleCounterOverflow s = .next (localFailed s cur .overRange))
    ∧ (SpanPeriodNext s cur.spanClock →
      (x.spanCounter ≠ 1 → s.fastPeriod = { v with converter := { x with spanCounter := x.spanCounter - 1 } })
      ∧ (x.spanCounter = 1 →
        (m = 0 → both (localFailed v cur .noSignal))
        ∧ (1 ≤ m.toNat →
          let j : Job := { channel := cur.channel, m := m, n := cur.presetN, round := cur.round, origin := .localEngine }
          (s.ratio.localInput = none → s.ratio.divider = none →
            both { v with ratio := { s.ratio with divider := some j }, converter := handedOff s })
          ∧ (s.ratio.localInput = none → s.ratio.divider ≠ none →
            both { v with ratio := { s.ratio with localInput := some j }, converter := handedOff s })
          ∧ (s.ratio.localInput ≠ none →
            both { v with
              converter := { state := .ratioWait cur j, cycleCounter := 0, spanCounter := 0, wave := .low } }))))
    ∧ (∀ k : Nat, x.wave = .low → m.toNat + k ≤ 65535 →
      s.edges (List.replicate (2 * k) .halfCycle) =
        { s with converter := { x with cycleCounter := BitVec.ofNat 16 (m.toNat + k) } })
    ∧ (∀ k : Nat, Runs s → periods s + k ≤ 128 → spanPeriodsIn s cur.spanClock k < x.spanCounter.toNat →
      let t := s.edges (List.replicate k .fastPeriod)
      t.converter =
        { x with spanCounter := BitVec.ofNat 16 (x.spanCounter.toNat - spanPeriodsIn s cur.spanClock k) }
      ∧ periods t = periods s + k)

/-- DIVISION_END (R86, R87, R92, R105, R139): the outcome of the job goes into its channel's record; the divider takes the
one job that waits, or, of two, that of the input the marker does not name, which the marker then names; the input emptied
takes the job of a converter in RATIO_WAIT, or of the row at the head of the wait order. -/
def Obligations.DivisionEndHandsOverAndTakesTheNext : Prop :=
  ∀ (s : State) (j : Job), s.ratio.divider = some j →
    let u := handed s j.channel (divide j)
    (s.ratio.localInput = none → s.ratio.remoteInput = none →
      exec .divisionEnd s = .next { u with ratio := { s.ratio with divider := none } })
    ∧ (∀ jl, s.ratio.localInput = some jl → s.ratio.remoteInput = none → exec .divisionEnd s = .next (localTaken u jl))
    ∧ (∀ jr, s.ratio.localInput = none → s.ratio.remoteInput = some jr → exec .divisionEnd s = .next (remoteTaken u jr))
    ∧ (∀ jl jr, s.ratio.localInput = some jl → s.ratio.remoteInput = some jr →
      (s.ratio.marker = .remoteEngine →
        exec .divisionEnd s = .next (localTaken { u with ratio := { s.ratio with marker := .localEngine } } jl))
      ∧ (s.ratio.marker = .localEngine →
        exec .divisionEnd s = .next (remoteTaken { u with ratio := { s.ratio with marker := .remoteEngine } } jr)))

/-- The division (R89, R90, R91): N of 0 gives REMOTE_DATA_INVALID and M of 4 × N or more OVER_RANGE, both with value 0;
otherwise the six steps give Q, the floor of M × 32768 / N and at most 131070, and the value is the floor of
M × 16384 / N, or that rounded to the nearest integer with a half rounded up, which is the same when Q is even and 1 greater
otherwise. -/
def Obligations.DivisionGivesTheRatioOfTheCounts : Prop :=
  ∀ (j : Job),
    let m := j.m.toNat
    let n := j.n.toNat
    (n = 0 → divide j = { value := 0, status := .remoteDataInvalid })
    ∧ (n ≠ 0 → 4 * n ≤ m → divide j = { value := 0, status := .overRange })
    ∧ (n ≠ 0 → m < 4 * n →
      quotient m n = m * 32768 / n ∧ quotient m n ≤ 131070
      ∧ (divide j).status = .ok
      ∧ (j.round = false → (divide j).value.toNat = m * 16384 / n)
      ∧ (j.round = true → (divide j).value.toNat = (m * 32768 + n) / (2 * n))
      ∧ ((divide { j with round := true }).value = (divide { j with round := false }).value ↔ quotient m n % 2 = 0)
      ∧ ((divide { j with round := true }).value = (divide { j with round := false }).value
        ∨ (divide { j with round := true }).value.toNat = (divide { j with round := false }).value.toNat + 1))

/-- COMPLETION (R52, R53, R68, R69): the record leaves the In-Flight Set; every field of the channel's result entry is
written, its sequence one higher and its mark cleared; each waiter of each port gets one delivery of the entry just
written, in rising order of slot number; and a BUS_* status sets BUS_FAULT of both ports. -/
def Obligations.CompletionWritesAndDelivers : Prop :=
  ∀ (s : State) (ch : Channel) (before after : List ConversionRecord) (r : ConversionRecord) (o : ConversionOutcome),
    s.inFlight = before ++ r :: after → r.channel = ch → (∀ q ∈ before, q.channel ≠ ch) → r.outcome = some o →
    let part : ResultPart :=
      { value := o.value, status := o.status, sequence := s.results[ch].part.sequence + 1, startStamp := r.startStamp
        endStamp := s.timebase.tick, generation := r.generation, restarts := r.restarts }
    let t : State := { s with
      inFlight := before ++ after
      results := s.results.set ch { valid := true, reserved := false, part := part }
      portA := delivered s.portA (waitersOf .a r.waiters) part
      portB := delivered s.portB (waitersOf .b r.waiters) part }
    ((o.status = .busLost ∨ o.status = .busHoldTimeout ∨ o.status = .busStuck) →
      exec (.completion ch) s =
        .next (flagged (flagged t .a fun f => { f with busFault := true }) .b fun f => { f with busFault := true }))
    ∧ (o.status ≠ .busLost → o.status ≠ .busHoldTimeout → o.status ≠ .busStuck →
      exec (.completion ch) s = .next t)

/-! ## The remote engine -/

/-- TRIGGER (R49, R50, R133, R134): with the controller IDLE, no read due, room, a FREE row and a remote entry whose channel
is not reserved, the entry nearest the head goes into the lowest FREE row with its channel's settings, and the controller
has accepted the TRIGGER as attempt 1. On a BUSY bus it waits in WAIT_FREE with its limit 65 ticks ahead; on a FREE one
the START begins in the same event, or is lost when XCL is low (log 10). -/
def Obligations.TriggerTakesAnEntryIntoARow : Prop :=
  ∀ (s : State) (xcl : Level) (before after : List PendingEntry) (e : PendingEntry) (r : RowNo)
    (address : BitVec 7) (settle : Byte) (limit : BitVec 4),
    s.bus.control = .idle → s.remote.readOrder = [] → s.inFlightOf .remoteEngine < 4 →
    s.pendingList = before ++ e :: after → 8 ≤ e.channel.val → s.results[e.channel].reserved = false →
    (∀ d ∈ before, d.channel.val < 8 ∨ s.results[d.channel].reserved = true) →
    (∀ d ∈ before, d.channel ≠ e.channel) →
    s.remote.rows[r].state = .free → (∀ q : RowNo, q < r → s.remote.rows[q].state ≠ .free) →
    s.channels[e.channel].fields = .remoteKind address settle limit →
      let u : State := { s with
        pendingList := before ++ after
        inFlight := s.inFlight ++ [{ channel := e.channel, engine := .remoteEngine, waiters := e.waiters
                                     startStamp := s.timebase.tick, generation := s.channels[e.channel].generation
                                     restarts := e.restarts, outcome := none }]
        results := s.results.set e.channel { s.results[e.channel] with reserved := true }
        remote := { s.remote with rows := s.remote.rows.set r { freeRowValues with
          state := .triggering, channel := e.channel, busAddress := address, settle := settle, pollLimit := limit
          round := s.channels[e.channel].round } }
        bus := { s.bus with
          attempt := 1, received := []
          transaction := some { target := address, writePart := [0x10, 0x01], readCount := 0 } } }
      (s.bus.busState = .busy → exec (.trigger xcl) s =
        .next (inControl (withDeadline u .busWait (s.timebase.tick + 65)) .waitFree .stopped))
      ∧ (s.bus.busState = .free → xcl = .high → exec (.trigger xcl) s = .next (startBegun u))
      ∧ (s.bus.busState = .free → xcl = .low → exec (.trigger xcl) s = .next (backedOff u))

/-- READ (R133, R137): with the controller IDLE the row at the head of the read order leaves it, becomes READING, and the
controller has accepted its READ: the row's address, write part 20h, read count 5. -/
def Obligations.ReadServesTheHeadOfTheReadOrder : Prop :=
  ∀ (s : State) (xcl : Level) (r : RowNo) (rest : List RowNo),
    s.bus.control = .idle → s.remote.readOrder = r :: rest →
      let u : State := { s with
        remote := { s.remote with
          rows := s.remote.rows.set r { s.remote.rows[r] with state := .reading }, readOrder := rest }
        bus := { s.bus with
          attempt := 1, received := []
          transaction := some { target := s.remote.rows[r].busAddress, writePart := [0x20], readCount := 5 } } }
      (s.bus.busState = .busy → exec (.read xcl) s =
        .next (inControl (withDeadline u .busWait (s.timebase.tick + 65)) .waitFree .stopped))
      ∧ (s.bus.busState = .free → xcl = .high → exec (.read xcl) s = .next (startBegun u))
      ∧ (s.bus.busState = .free → xcl = .low → exec (.read xcl) s = .next (backedOff u))

/-- STOP (R125, R128): the bus is FREE and the controller IDLE without a record of the transaction. After a TRIGGER (R135, R140)
the row is SETTLING with its read due settle ticks ahead, or its conversion has ended with REMOTE_ABSENT or REMOTE_REFUSED.
After a READ (R138 to R140), by the state byte, the job of the two counts is offered to the remote input, the row settles 4
ticks for a further poll, or its conversion ends with REMOTE_TIMEOUT or REMOTE_FAULT; a high acknowledge ends it with
REMOTE_ABSENT or REMOTE_REFUSED. That the STOP is accepted in each place of STOP with XCL high, before XDA is released and
after the half-bit period that follows its release as well as in between, is the model's reading (log 13). -/
def Obligations.StopEndsTheTransaction : Prop :=
  ∀ (s : State) (r : RowNo) (place : StopStep) (result : AttemptResult),
    place ∈ [StopStep.clocked .high, .released, .overdue] → s.bus.control = .stop place result →
    let u := endedBus (freed s)
    let x := s.remote.rows[r]
    (Carries s r .triggering → exec .stop s = .next (match result with
      | .done => settled u r (x.settle.setWidth 32) x.polls
      | .addressNack => failed u r .remoteAbsent
      | .dataNack => failed u r .remoteRefused))
    ∧ (Carries s r .reading →
      (result = .addressNack → exec .stop s = .next (failed u r .remoteAbsent))
      ∧ (result = .dataNack → exec .stop s = .next (failed u r .remoteRefused))
      ∧ ∀ b0 b1 b2 b3 b4 : Byte, result = .done → s.bus.received = [b0, b1, b2, b3, b4] →
        (b0 = 0x00 →
          let y := { x with m := b1 ++ b2, n := b3 ++ b4 }
          (s.ratio.remoteInput = none → s.ratio.divider = none → exec .stop s =
            .next { withRow u r freeRowValues with
              ratio := { s.ratio with divider := some (jobOf x (b1 ++ b2) (b3 ++ b4)) } })
          ∧ (s.ratio.remoteInput = none → s.ratio.divider ≠ none → exec .stop s =
            .next { withRow u r freeRowValues with
              ratio := { s.ratio with remoteInput := some (jobOf x (b1 ++ b2) (b3 ++ b4)) } })
          ∧ (s.ratio.remoteInput ≠ none → exec .stop s =
            .next { u with remote := { s.remote with
              rows := s.remote.rows.set r { y with state := .ratioWait }
              waitOrder := s.remote.waitOrder ++ [r] } }))
        ∧ (b0 = 0x01 → x.polls.toNat < x.pollLimit.toNat → exec .stop s = .next (settled u r 4 (x.polls + 1)))
        ∧ (b0 = 0x01 → x.pollLimit.toNat ≤ x.polls.toNat → exec .stop s = .next (failed u r .remoteTimeout))
        ∧ (b0 ≠ 0x00 → b0 ≠ 0x01 → exec .stop s = .next (failed u r .remoteFault)))

/-- A sensor built as R131 says: a TRIGGER's bytes start a measurement, its block then reads busy until the measurement
ends and ready with that measurement's counts after, selecting it for a read changes nothing in it, and a read after a write
of index 20h returns it; a row that reads a ready block offers the job of the two counts. -/
def Obligations.SensorAnswersTheRegisterProtocol : Prop :=
  ∀ (x : RemoteSensor) (m n : Word),
    let busySensor := x.write [0x10, 0x01]
    busySensor.block.head? = some 0x01
    ∧ ((busySensor.write [0x20]).finish m n).block.head? = some 0x00
    ∧ (busySensor.finish m n).m = m ∧ (busySensor.finish m n).n = n
    ∧ ((busySensor.finish m n).write [0x20]).block = (busySensor.finish m n).block
    ∧ (x.write [0x20]).read = some x.block
    ∧ ((busySensor.finish m n).write [0x10, 0x01]).block.head? = some 0x01
    ∧ ∀ (s : State) (r : RowNo), s.resultBlock r (busySensor.finish m n).block = s.offerRemote r m n

/-! ## The expansion bus -/

/-- START_CONDITION and STOP_CONDITION of another device (R113, R119, R126): the bus is BUSY or FREE. In an attempt it is a
loss of arbitration, except for a START seen in START (R119, log 11); outside one nothing else changes but the idle check,
which a STOP ends (R114). In the places of an attempt where XCL is low or has not yet been seen high, or where the controller
itself holds XDA low, no condition of another device can be sampled, so none occurs (R112, R126; log 1, log 11). That the bus is
tracked while RESET_N is low too is the model's choice (log 15). -/
def Obligations.ForeignConditionsSetTheBusState : Prop :=
  ∀ s : State,
    ((NoAttempt s ∨ s.bus.control = .start) → exec .startCondition s = .next (busy s))
    ∧ (NoAttempt s → exec .stopCondition s = .next (freed s))
    ∧ (¬ NoAttempt s → ¬ Exposed s → exec .startCondition s = .next s ∧ exec .stopCondition s = .next s)
    ∧ (s.bus.attempt.val < 4 →
      (Exposed s → s.bus.control ≠ .start → exec .startCondition s = .next (backedOff (busy s)))
      ∧ (Exposed s → exec .stopCondition s = .next (backedOff (freed s))))
    ∧ (s.bus.attempt.val = 4 → ∀ (r : RowNo) (state : RowState), Carries s r state →
      (Exposed s → s.bus.control ≠ .start →
        exec .startCondition s = .next (carriedFailed (busy s) r .busLost))
      ∧ (Exposed s → exec .stopCondition s = .next (carriedFailed (freed s) r .busLost)))

/-- LOSS_OF_ARBITRATION (R126): in the places and on the conditions of the table, a foreign condition only where it can be
sampled (log 11), attempts 1 to 3 end in BACKOFF with the
attempt count one higher, the bytes received discarded and the wait limit 65 ticks ahead; the fourth ends the transaction
LOST, and its row's conversion with BUS_LOST. -/
def Obligations.LossEndsTheAttempt : Prop :=
  ∀ (s : State) (cause : LossCause),
    Losable s cause →
    let u := match cause with
      | .foreignStart => busy s
      | .foreignStop => freed s
      | _ => s
    (s.bus.attempt.val < 4 → exec (.lossOfArbitration cause) s = .next (backedOff u))
    ∧ (s.bus.attempt.val = 4 → ∀ (r : RowNo) (state : RowState), Carries s r state →
      exec (.lossOfArbitration cause) s = .next (carriedFailed u r .busLost))

/-- ATTEMPT_START and BACKOFF_END (R119, R120, R127): in WAIT_FREE on a FREE bus the START begins, or is lost when XCL is
low; BACKOFF ends in WAIT_FREE, where a FREE bus lets the START begin in the same event (log 10). The model's readings:
ATTEMPT_START without its conditions does not occur (log 1), and BACKOFF_END may end BACKOFF from either of the two half-bit
periods that R127 times, since no length of time is enforced (logs 7, 24). -/
def Obligations.AttemptsStartOnAFreeBus : Prop :=
  ∀ (s : State) (xcl : Level),
    (s.bus.control = .waitFree → s.bus.busState = .free →
      (xcl = .high → exec (.attemptStart xcl) s = .next (startBegun s))
      ∧ (xcl = .low → s.bus.attempt.val < 4 → exec (.attemptStart xcl) s = .next (backedOff s))
      ∧ (xcl = .low → s.bus.attempt.val = 4 → ∀ (r : RowNo) (state : RowState), Carries s r state →
        exec (.attemptStart xcl) s = .next (carriedFailed s r .busLost)))
    ∧ ((s.bus.control ≠ .waitFree ∨ s.bus.busState = .busy) → exec (.attemptStart xcl) s = .next s)
    ∧ (∀ second : Bool, s.bus.control = .backoff second →
      (s.bus.busState = .busy → exec (.backoffEnd xcl) s = .next (inControl s .waitFree .stopped))
      ∧ (s.bus.busState = .free → xcl = .high → exec (.backoffEnd xcl) s = .next (startBegun s))
      ∧ (s.bus.busState = .free → xcl = .low → s.bus.attempt.val < 4 →
        exec (.backoffEnd xcl) s = .next (backedOff s))
      ∧ (s.bus.busState = .free → xcl = .low → s.bus.attempt.val = 4 → ∀ (r : RowNo) (state : RowState),
        Carries s r state → exec (.backoffEnd xcl) s = .next (carriedFailed s r .busLost)))

/-- HALF_BIT_PERIOD_END (R115, R116, R120 to R125, R127): what follows a half-bit period in each state of 7.6. A low half
ends by releasing XCL, with the hold limit 9 ticks ahead; a high half by the low half of the next bit, byte or phase. The
model's readings: one half-bit period after XDA's release in STOP the timer is stopped and the controller waits for a STOP or
a loss (log 13), and the last half-bit period of BACKOFF is ended by BACKOFF_END, so this command leaves it alone (log 24). -/
def Obligations.HalfBitPeriodsFollowTheStates : Prop :=
  ∀ s : State,
    exec .halfBitPeriodEnd s = .next (match s.bus.control with
      | .start => timed s (.sendByte .addressWrite 0 .low)
      | .sendByte y i .low => released s (.sendByte y i .rising)
      | .sendByte y i .high =>
        if i.val = 7 then timed s (.ackIn y .low .high) else timed s (.sendByte y (Fin.ofNat 8 (i.val + 1)) .low)
      | .ackIn y .low l => released s (.ackIn y .rising l)
      | .ackIn .addressWrite .high .low =>
        if s.bus.carried.writePart = [] then
          if s.bus.carried.readCount = 0 then timed s (.stop (.clocked .low) .done)
          else timed s (.restart (.clocked .low))
        else timed s (.sendByte (.writeByte 0) 0 .low)
      | .ackIn (.writeByte k) .high .low =>
        if k + 1 < s.bus.carried.writePart.length then timed s (.sendByte (.writeByte (k + 1)) 0 .low)
        else if s.bus.carried.readCount = 0 then timed s (.stop (.clocked .low) .done)
        else timed s (.restart (.clocked .low))
      | .ackIn .addressRead .high .low => timed s (.recvByte 0 .low 0)
      | .ackIn .addressWrite .high .high => timed s (.stop (.clocked .low) .addressNack)
      | .ackIn .addressRead .high .high => timed s (.stop (.clocked .low) .addressNack)
      | .ackIn (.writeByte _) .high .high => timed s (.stop (.clocked .low) .dataNack)
      | .recvByte i .low bits => released s (.recvByte i .rising bits)
      | .recvByte i .high bits =>
        if i.val = 7 then timed { s with bus := { s.bus with received := s.bus.received ++ [bits] } } (.ackOut .low)
        else timed s (.recvByte (Fin.ofNat 8 (i.val + 1)) .low bits)
      | .ackOut .low => released s (.ackOut .rising)
      | .ackOut .high =>
        if s.bus.carried.readCount ≤ s.bus.received.length then timed s (.stop (.clocked .low) .done)
        else timed s (.recvByte 0 .low 0)
      | .restart (.clocked .low) => released s (.restart (.clocked .rising))
      | .restart (.clocked .high) => timed (busy s) (.restart .pulled)
      | .restart .pulled => timed s (.sendByte .addressRead 0 .low)
      | .stop (.clocked .low) result => released s (.stop (.clocked .rising) result)
      | .stop (.clocked .high) result => timed s (.stop .released result)
      | .stop .released result => inControl s (.stop .overdue result) .stopped
      | .backoff false => timed s (.backoff true)
      | _ => s)

/-- XCL_SAMPLED_HIGH (R116, R121 to R125): the hold limit is dropped and the high half timed; the level of XDA at the rise is
the bit received or the target's acknowledge, and low is a loss against a bit sent as 1, against the controller's high
acknowledge, and in a RESTART. -/
def Obligations.XclSampledHighTakesTheBit : Prop :=
  ∀ (s : State) (xda : Level),
    let u := without s .holdLimit
    (∀ y i, s.bus.control = .sendByte y i .rising →
      ((sentByte s.bus.carried y).getMsbD i.val = false ∨ xda = .high) →
      exec (.xclSampledHigh xda) s = .next (timed u (.sendByte y i .high)))
    ∧ (∀ y l, s.bus.control = .ackIn y .rising l → exec (.xclSampledHigh xda) s = .next (timed u (.ackIn y .high xda)))
    ∧ (∀ i bits, s.bus.control = .recvByte i .rising bits →
      exec (.xclSampledHigh xda) s = .next (timed u (.recvByte i .high
        ((bits <<< 1) ||| (match xda with | .low => 0 | .high => 1)))))
    ∧ (s.bus.control = .ackOut .rising → (s.bus.received.length < s.bus.carried.readCount ∨ xda = .high) →
      exec (.xclSampledHigh xda) s = .next (timed u (.ackOut .high)))
    ∧ (s.bus.control = .restart (.clocked .rising) → xda = .high →
      exec (.xclSampledHigh xda) s = .next (timed u (.restart (.clocked .high))))
    ∧ (∀ result, s.bus.control = .stop (.clocked .rising) result →
      exec (.xclSampledHigh xda) s = .next (timed u (.stop (.clocked .high) result)))
    ∧ (((∃ y i, s.bus.control = .sendByte y i .rising ∧ (sentByte s.bus.carried y).getMsbD i.val = true)
        ∨ (s.bus.control = .ackOut .rising ∧ s.bus.carried.readCount ≤ s.bus.received.length)
        ∨ s.bus.control = .restart (.clocked .rising)) → xda = .low →
      (s.bus.attempt.val < 4 → exec (.xclSampledHigh xda) s = .next (backedOff s))
      ∧ (s.bus.attempt.val = 4 → ∀ (r : RowNo) (state : RowState), Carries s r state →
        exec (.xclSampledHigh xda) s = .next (carriedFailed s r .busLost)))
    ∧ (s.bus.control.rising = false → exec (.xclSampledHigh xda) s = .next s)

/-- XCL_PULLED_LOW_BY_ANOTHER_DEVICE (R117, R120, R124, R125): the high half of a bit, an acknowledge or a STOP ends as at the
end of its half-bit period; in START and after the repeated START the controller goes on in step; in RESTART before it,
this is a loss; elsewhere nothing changes, in STOP after XDA's release by the model's choice (log 26). The idle check's count
starts again (R114). -/
def Obligations.AnotherClockEndsTheHighHalf : Prop :=
  ∀ s : State,
    let u : State := { s with bus := { s.bus with linesHigh := false } }
    ((match s.bus.control with
      | .start | .sendByte _ _ .high | .ackIn _ .high _ | .recvByte _ .high _ | .ackOut .high | .stop (.clocked .high) _
      | .restart .pulled => True
      | _ => False) →
      exec .xclPulledLowByAnotherDevice s = exec .halfBitPeriodEnd u)
    ∧ (s.bus.control = .restart (.clocked .high) → s.bus.attempt.val < 4 →
      exec .xclPulledLowByAnotherDevice s = .next (backedOff u))
    ∧ (s.bus.control = .restart (.clocked .high) → s.bus.attempt.val = 4 →
      ∀ (r : RowNo) (state : RowState), Carries s r state →
        exec .xclPulledLowByAnotherDevice s = .next (carriedFailed u r .busLost))
    ∧ ((match s.bus.control with
        | .idle | .waitFree | .backoff _ | .sendByte _ _ .low | .sendByte _ _ .rising | .ackIn _ .low _
        | .ackIn _ .rising _ | .recvByte _ .low _ | .recvByte _ .rising _ | .ackOut .low | .ackOut .rising
        | .restart (.clocked .low) | .restart (.clocked .rising) | .stop (.clocked .low) _
        | .stop (.clocked .rising) _ | .stop .released _ | .stop .overdue _ => True
        | _ => False) →
      exec .xclPulledLowByAnotherDevice s = .next u)

/-- A byte received (R123): from its first low half, eight bits each clocked by two half-bit periods and a rise of XCL give the
byte whose bits they are, most significant first, which joins the attempt's received bytes before the controller's own
acknowledge. A byte sent (R118, R121): eight bits clocked undisturbed lead to the target's acknowledge, and in bit i XDA is
pulled low exactly when bit i of the byte, most significant first, is 0; the address bytes are the seven address bits and the
direction bit, and the others the bytes of the write part in order. -/
def Obligations.EightBitsMakeAByte : Prop :=
  (∀ (s : State) (b : Byte), s.bus.control = .recvByte 0 .low 0 →
    let clock := fun (t : State) (i : Fin 8) =>
      ((t.halfBitPeriodEnd).xclSampledHigh (if b.getMsbD i.val = true then .high else .low)).halfBitPeriodEnd
    let t := (List.finRange 8).foldl clock s
    t.bus.control = .ackOut .low ∧ t.bus.received = s.bus.received ++ [b]
    ∧ t.bus.attempt = s.bus.attempt ∧ t.bus.transaction = s.bus.transaction)
  ∧ (∀ (s : State) (y : SentByte), s.bus.control = .sendByte y 0 .low →
    let after := fun k : Nat =>
      (List.range k).foldl (fun t _ => ((t.halfBitPeriodEnd).xclSampledHigh .high).halfBitPeriodEnd) s
    (∀ i : Fin 8, (after i.val).bus.control = .sendByte y i .low
      ∧ ((after i.val).bus.xdaPulled = true ↔ (sentByte s.bus.carried y).getMsbD i.val = false)
      ∧ (after i.val).bus.xclPulled = true)
    ∧ (after 8).bus.control = .ackIn y .low .high
    ∧ (sentByte s.bus.carried .addressWrite).toNat = 2 * s.bus.carried.target.toNat
    ∧ (sentByte s.bus.carried .addressRead).toNat = 2 * s.bus.carried.target.toNat + 1
    ∧ (∀ (k : Nat) (h : k < s.bus.carried.writePart.length),
        sentByte s.bus.carried (.writeByte k) = s.bus.carried.writePart[k])
    ∧ ∀ x : Transaction, s.bus.transaction = some x → s.bus.carried = x)

/-- READ_EXPIRY (R136): a SETTLING row becomes READ_DUE and joins the tail of the read order. HOLD_LIMIT_EXPIRY and
BUS_WAIT_LIMIT_EXPIRY (R116, R119, R128): XCL not yet high at the hold limit ends the transaction with HOLD_TIMEOUT and the bus
state as it was; the wait limit in WAIT_FREE on a BUSY bus ends it STUCK (on a FREE bus the START comes first, log 12). The
row's conversion ends with BUS_HOLD_TIMEOUT or BUS_STUCK (R140). -/
def Obligations.RemoteExpiriesAct : Prop :=
  ∀ (s : State) (r : RowNo),
    (.readDue r ∈ s.timebase.delivered → s.remote.rows[r].state = .settling →
      let u := without s (.readDue r)
      exec (.readExpiry r) s = .next { u with
        remote := { s.remote with
          rows := s.remote.rows.set r { s.remote.rows[r] with state := .readDue }
          readOrder := s.remote.readOrder ++ [r] } })
    ∧ ∀ state : RowState, Carries s r state →
      (.holdLimit ∈ s.timebase.delivered → s.bus.control.rising = true →
        exec .holdLimitExpiry s = .next (carriedFailed s r .busHoldTimeout))
      ∧ (.busWait ∈ s.timebase.delivered → s.bus.control = .waitFree → s.bus.busState = .busy →
        exec .busWaitLimitExpiry s = .next (carriedFailed s r .busStuck))

/-! ## The Timebase -/

/-- TICK (R97, R114, R144, R146, R147): the counter rises by 1; the deadlines equal to its new value are delivered; TAP is set
at each port whose tap select k is not 0 and 2^k divides the new value; the idle check makes the bus FREE when both lines have
been high since the previous tick. Before it, expiries not yet taken are taken in the order of their delivery (log 4), each by
its own command, and the tick's edges are counted with every FAST period that it still lacks, so that a tick has 128 of them
and 32 crystal cycles (logs 5, 6). -/
def Obligations.TickCountsDeliversAndTaps : Prop :=
  (∀ (s : State) (input : TickInput), Runs s →
    let u := s.timebase.delivered.foldl State.takeExpiry s
    let w := u.edges input.edges
    let v := w.edges (List.replicate (128 - periods w) .fastPeriod)
    let n := v.timebase.tick + 1
    let tapped := fun (p : Port) (t : State) =>
      let k := ((t.port p).control.toNat / 2 ^ 9) % 16
      if k ≠ 0 ∧ n.toNat % 2 ^ k = 0 then flagged t p fun f => { f with tap := true } else t
    exec (.tick input) s = .next (tapped .b (tapped .a { v with
      timebase := { v.timebase with
        tick := n
        subTick := 0
        deadlines := v.timebase.deadlines.filter fun d => decide (d.stamp ≠ n)
        delivered := v.timebase.delivered ++ (v.timebase.deadlines.filter fun d => decide (d.stamp = n)).map (·.item) }
      bus :=
        if v.bus.idleCheck = true then
          if v.bus.linesHigh = true ∧ input.linesHigh = true then
            { v.bus with busState := .free, idleCheck := false, linesHigh := false }
          else { v.bus with linesHigh := input.linesHigh }
        else v.bus }))
    ∧ (s.timebase.delivered = [] → u = s)
    ∧ v.timebase.tick = s.timebase.tick
    ∧ (periods s ≤ 128 →
      periods v = 128 ∧ v.timebase.crystalCycles = s.timebase.crystalCycles + (32 - periods s / 4)))
  ∧ ∀ s : State,
    (∀ c : Channel, exec (.claimExpiry c) s = .next (s.takeExpiry (.claim c)))
    ∧ (∀ (p : Port) (i : SlotNo), exec (.dueExpiry p i) s = .next (s.takeExpiry (.watchDue p i)))
    ∧ (∀ p : Port, exec (.quietWindowExpiry p) s = .next (s.takeExpiry (.quietEnd p)))
    ∧ (∀ r : RowNo, exec (.readExpiry r) s = .next (s.takeExpiry (.readDue r)))
    ∧ exec .holdLimitExpiry s = .next (s.takeExpiry .holdLimit)
    ∧ exec .busWaitLimitExpiry s = .next (s.takeExpiry .busWait)

/-! ## What every step keeps -/

/-- The relations of Safety.lean hold at the state right after reset. -/
def Obligations.ResetStateIsSound : Prop :=
  State.reset.ReservationsAgree ∧ State.reset.ChannelsLegal ∧ State.reset.ConverterObeysQuiet
  ∧ State.reset.DeadlinesUnique ∧ State.reset.BusCoherent ∧ State.reset.NothingBeforeRunning
  ∧ State.reset.RequestsAgree ∧ State.reset.HeldDeadlinesAgree ∧ State.reset.RemoteCoherent

/-- Every step keeps the reservations: at most one pending entry and one conversion in flight of a channel, reserved exactly
while in flight, and the room of the engines (R40, R41, R67). -/
def Obligations.StepKeepsReservations : Prop :=
  ∀ s t : State, s.ReservationsAgree → step s = .next t → t.ReservationsAgree

/-- Every step keeps the channel records legal and the bus addresses of ON channels distinct (R1, R12). -/
def Obligations.StepKeepsChannelsLegal : Prop :=
  ∀ s t : State, s.ChannelsLegal → step s = .next t → t.ChannelsLegal

/-- Every step keeps the converter's relation to quiet, its counters 0 and OSCMON low outside REF and SENSE, and a span count
to go in SENSE (R96, R97, R98, R102); and no tick holds more than its 128 FAST periods. -/
def Obligations.StepKeepsConverterObeyingQuiet : Prop :=
  ∀ s t : State, s.ConverterObeysQuiet → step s = .next t → t.ConverterObeysQuiet

/-- Every step keeps at most one deadline or delivered expiry for each item (R146), and a claim's deadline exactly while the
claim is held and a quiet window's exactly while the window is open (R6, R8, R9, R58, R59). -/
def Obligations.StepKeepsDeadlinesUnique : Prop :=
  ∀ s t : State, step s = .next t →
    (s.DeadlinesUnique → t.DeadlinesUnique) ∧ (s.HeldDeadlinesAgree → t.HeldDeadlinesAgree)

/-- Every step keeps the part as the device reset left it until the Timebase is RUNNING (R143). -/
def Obligations.StepKeepsNothingBeforeRunning : Prop :=
  ∀ s t : State, s.NothingBeforeRunning → step s = .next t → t.NothingBeforeRunning

/-- Every step keeps the controller's state, attempt count, timer and deadlines coherent (7.6, R118, R128), and with them the
Remote Engine's rows: exactly one in TRIGGERING or READING while the controller is not IDLE and none while it is, the read
order the rows in READ_DUE, the wait order those in RATIO_WAIT, and a read due deadline exactly in SETTLING (R132, R136, R139),
in states in which nothing runs before start-up has ended. -/
def Obligations.StepKeepsBusCoherent : Prop :=
  ∀ s t : State, s.NothingBeforeRunning → s.BusCoherent → s.RemoteCoherent → step s = .next t →
    t.BusCoherent ∧ t.RemoteCoherent

/-- Every step keeps slots, waiter sets, response queues and due deadlines in agreement, and what a CONVERT's slot does not use at
its FREE values (R22, R23, R40, R73, R146), in states
whose reservations agree, whose deadlines are unique and in which nothing runs before start-up has ended. -/
def Obligations.StepKeepsRequestsInAgreement : Prop :=
  ∀ s t : State, s.ReservationsAgree → s.DeadlinesUnique → s.NothingBeforeRunning → s.RequestsAgree →
    step s = .next t → t.RequestsAgree
end

