-- ==== Sys2Proof/Laws/State.lean ====
section
/-! SUPPORT. What each update of the state leaves as it was, field by field, and what a read gives back after it. No
later proof unfolds a record update of `State`. -/

namespace Sys2Proof.Machine

/-! ## setPort -/

@[simp] theorem State.setPort_pending (s : State) (p : Port) (x : PortState) : (s.setPort p x).pending = s.pending := by
  cases p <;> rfl

@[simp] theorem State.setPort_resetN (s : State) (p : Port) (x : PortState) : (s.setPort p x).resetN = s.resetN := by
  cases p <;> rfl

@[simp] theorem State.setPort_timebase (s : State) (p : Port) (x : PortState) : (s.setPort p x).timebase = s.timebase := by
  cases p <;> rfl

@[simp] theorem State.setPort_channels (s : State) (p : Port) (x : PortState) : (s.setPort p x).channels = s.channels := by
  cases p <;> rfl

@[simp] theorem State.setPort_results (s : State) (p : Port) (x : PortState) : (s.setPort p x).results = s.results := by
  cases p <;> rfl

@[simp] theorem State.setPort_pendingList (s : State) (p : Port) (x : PortState) : (s.setPort p x).pendingList = s.pendingList := by
  cases p <;> rfl

@[simp] theorem State.setPort_inFlight (s : State) (p : Port) (x : PortState) : (s.setPort p x).inFlight = s.inFlight := by
  cases p <;> rfl

@[simp] theorem State.setPort_ratio (s : State) (p : Port) (x : PortState) : (s.setPort p x).ratio = s.ratio := by
  cases p <;> rfl

@[simp] theorem State.setPort_converter (s : State) (p : Port) (x : PortState) : (s.setPort p x).converter = s.converter := by
  cases p <;> rfl

@[simp] theorem State.setPort_remote (s : State) (p : Port) (x : PortState) : (s.setPort p x).remote = s.remote := by
  cases p <;> rfl

@[simp] theorem State.setPort_bus (s : State) (p : Port) (x : PortState) : (s.setPort p x).bus = s.bus := by
  cases p <;> rfl

/-! ## setChannel -/

@[simp] theorem State.setChannel_pending (s : State) (c : Channel) (x : ChannelRecord) : (s.setChannel c x).pending = s.pending := rfl

@[simp] theorem State.setChannel_resetN (s : State) (c : Channel) (x : ChannelRecord) : (s.setChannel c x).resetN = s.resetN := rfl

@[simp] theorem State.setChannel_timebase (s : State) (c : Channel) (x : ChannelRecord) : (s.setChannel c x).timebase = s.timebase := rfl

@[simp] theorem State.setChannel_results (s : State) (c : Channel) (x : ChannelRecord) : (s.setChannel c x).results = s.results := rfl

@[simp] theorem State.setChannel_pendingList (s : State) (c : Channel) (x : ChannelRecord) : (s.setChannel c x).pendingList = s.pendingList := rfl

@[simp] theorem State.setChannel_inFlight (s : State) (c : Channel) (x : ChannelRecord) : (s.setChannel c x).inFlight = s.inFlight := rfl

@[simp] theorem State.setChannel_portA (s : State) (c : Channel) (x : ChannelRecord) : (s.setChannel c x).portA = s.portA := rfl

@[simp] theorem State.setChannel_portB (s : State) (c : Channel) (x : ChannelRecord) : (s.setChannel c x).portB = s.portB := rfl

@[simp] theorem State.setChannel_ratio (s : State) (c : Channel) (x : ChannelRecord) : (s.setChannel c x).ratio = s.ratio := rfl

@[simp] theorem State.setChannel_converter (s : State) (c : Channel) (x : ChannelRecord) : (s.setChannel c x).converter = s.converter := rfl

@[simp] theorem State.setChannel_remote (s : State) (c : Channel) (x : ChannelRecord) : (s.setChannel c x).remote = s.remote := rfl

@[simp] theorem State.setChannel_bus (s : State) (c : Channel) (x : ChannelRecord) : (s.setChannel c x).bus = s.bus := rfl

/-! ## setResult -/

@[simp] theorem State.setResult_pending (s : State) (c : Channel) (x : ResultEntry) : (s.setResult c x).pending = s.pending := rfl

@[simp] theorem State.setResult_resetN (s : State) (c : Channel) (x : ResultEntry) : (s.setResult c x).resetN = s.resetN := rfl

@[simp] theorem State.setResult_timebase (s : State) (c : Channel) (x : ResultEntry) : (s.setResult c x).timebase = s.timebase := rfl

@[simp] theorem State.setResult_channels (s : State) (c : Channel) (x : ResultEntry) : (s.setResult c x).channels = s.channels := rfl

@[simp] theorem State.setResult_pendingList (s : State) (c : Channel) (x : ResultEntry) : (s.setResult c x).pendingList = s.pendingList := rfl

@[simp] theorem State.setResult_inFlight (s : State) (c : Channel) (x : ResultEntry) : (s.setResult c x).inFlight = s.inFlight := rfl

@[simp] theorem State.setResult_portA (s : State) (c : Channel) (x : ResultEntry) : (s.setResult c x).portA = s.portA := rfl

@[simp] theorem State.setResult_portB (s : State) (c : Channel) (x : ResultEntry) : (s.setResult c x).portB = s.portB := rfl

@[simp] theorem State.setResult_ratio (s : State) (c : Channel) (x : ResultEntry) : (s.setResult c x).ratio = s.ratio := rfl

@[simp] theorem State.setResult_converter (s : State) (c : Channel) (x : ResultEntry) : (s.setResult c x).converter = s.converter := rfl

@[simp] theorem State.setResult_remote (s : State) (c : Channel) (x : ResultEntry) : (s.setResult c x).remote = s.remote := rfl

@[simp] theorem State.setResult_bus (s : State) (c : Channel) (x : ResultEntry) : (s.setResult c x).bus = s.bus := rfl

/-! ## setReserved -/

@[simp] theorem State.setReserved_pending (s : State) (c : Channel) (b : Bool) : (s.setReserved c b).pending = s.pending := rfl

@[simp] theorem State.setReserved_resetN (s : State) (c : Channel) (b : Bool) : (s.setReserved c b).resetN = s.resetN := rfl

@[simp] theorem State.setReserved_timebase (s : State) (c : Channel) (b : Bool) : (s.setReserved c b).timebase = s.timebase := rfl

@[simp] theorem State.setReserved_channels (s : State) (c : Channel) (b : Bool) : (s.setReserved c b).channels = s.channels := rfl

@[simp] theorem State.setReserved_pendingList (s : State) (c : Channel) (b : Bool) : (s.setReserved c b).pendingList = s.pendingList := rfl

@[simp] theorem State.setReserved_inFlight (s : State) (c : Channel) (b : Bool) : (s.setReserved c b).inFlight = s.inFlight := rfl

@[simp] theorem State.setReserved_portA (s : State) (c : Channel) (b : Bool) : (s.setReserved c b).portA = s.portA := rfl

@[simp] theorem State.setReserved_portB (s : State) (c : Channel) (b : Bool) : (s.setReserved c b).portB = s.portB := rfl

@[simp] theorem State.setReserved_ratio (s : State) (c : Channel) (b : Bool) : (s.setReserved c b).ratio = s.ratio := rfl

@[simp] theorem State.setReserved_converter (s : State) (c : Channel) (b : Bool) : (s.setReserved c b).converter = s.converter := rfl

@[simp] theorem State.setReserved_remote (s : State) (c : Channel) (b : Bool) : (s.setReserved c b).remote = s.remote := rfl

@[simp] theorem State.setReserved_bus (s : State) (c : Channel) (b : Bool) : (s.setReserved c b).bus = s.bus := rfl

/-! ## setSlot -/

@[simp] theorem State.setSlot_pending (s : State) (p : Port) (i : SlotNo) (x : Slot) : (s.setSlot p i x).pending = s.pending := by
  cases p <;> rfl

@[simp] theorem State.setSlot_resetN (s : State) (p : Port) (i : SlotNo) (x : Slot) : (s.setSlot p i x).resetN = s.resetN := by
  cases p <;> rfl

@[simp] theorem State.setSlot_timebase (s : State) (p : Port) (i : SlotNo) (x : Slot) : (s.setSlot p i x).timebase = s.timebase := by
  cases p <;> rfl

@[simp] theorem State.setSlot_channels (s : State) (p : Port) (i : SlotNo) (x : Slot) : (s.setSlot p i x).channels = s.channels := by
  cases p <;> rfl

@[simp] theorem State.setSlot_results (s : State) (p : Port) (i : SlotNo) (x : Slot) : (s.setSlot p i x).results = s.results := by
  cases p <;> rfl

@[simp] theorem State.setSlot_pendingList (s : State) (p : Port) (i : SlotNo) (x : Slot) : (s.setSlot p i x).pendingList = s.pendingList := by
  cases p <;> rfl

@[simp] theorem State.setSlot_inFlight (s : State) (p : Port) (i : SlotNo) (x : Slot) : (s.setSlot p i x).inFlight = s.inFlight := by
  cases p <;> rfl

@[simp] theorem State.setSlot_ratio (s : State) (p : Port) (i : SlotNo) (x : Slot) : (s.setSlot p i x).ratio = s.ratio := by
  cases p <;> rfl

@[simp] theorem State.setSlot_converter (s : State) (p : Port) (i : SlotNo) (x : Slot) : (s.setSlot p i x).converter = s.converter := by
  cases p <;> rfl

@[simp] theorem State.setSlot_remote (s : State) (p : Port) (i : SlotNo) (x : Slot) : (s.setSlot p i x).remote = s.remote := by
  cases p <;> rfl

@[simp] theorem State.setSlot_bus (s : State) (p : Port) (i : SlotNo) (x : Slot) : (s.setSlot p i x).bus = s.bus := by
  cases p <;> rfl

/-! ## setRow -/

@[simp] theorem State.setRow_pending (s : State) (r : RowNo) (x : Row) : (s.setRow r x).pending = s.pending := rfl

@[simp] theorem State.setRow_resetN (s : State) (r : RowNo) (x : Row) : (s.setRow r x).resetN = s.resetN := rfl

@[simp] theorem State.setRow_timebase (s : State) (r : RowNo) (x : Row) : (s.setRow r x).timebase = s.timebase := rfl

@[simp] theorem State.setRow_channels (s : State) (r : RowNo) (x : Row) : (s.setRow r x).channels = s.channels := rfl

@[simp] theorem State.setRow_results (s : State) (r : RowNo) (x : Row) : (s.setRow r x).results = s.results := rfl

@[simp] theorem State.setRow_pendingList (s : State) (r : RowNo) (x : Row) : (s.setRow r x).pendingList = s.pendingList := rfl

@[simp] theorem State.setRow_inFlight (s : State) (r : RowNo) (x : Row) : (s.setRow r x).inFlight = s.inFlight := rfl

@[simp] theorem State.setRow_portA (s : State) (r : RowNo) (x : Row) : (s.setRow r x).portA = s.portA := rfl

@[simp] theorem State.setRow_portB (s : State) (r : RowNo) (x : Row) : (s.setRow r x).portB = s.portB := rfl

@[simp] theorem State.setRow_ratio (s : State) (r : RowNo) (x : Row) : (s.setRow r x).ratio = s.ratio := rfl

@[simp] theorem State.setRow_converter (s : State) (r : RowNo) (x : Row) : (s.setRow r x).converter = s.converter := rfl

@[simp] theorem State.setRow_bus (s : State) (r : RowNo) (x : Row) : (s.setRow r x).bus = s.bus := rfl

/-! ## dropDeadline -/

@[simp] theorem State.dropDeadline_pending (s : State) (i : DeadlineItem) : (s.dropDeadline i).pending = s.pending := rfl

@[simp] theorem State.dropDeadline_resetN (s : State) (i : DeadlineItem) : (s.dropDeadline i).resetN = s.resetN := rfl

@[simp] theorem State.dropDeadline_channels (s : State) (i : DeadlineItem) : (s.dropDeadline i).channels = s.channels := rfl

@[simp] theorem State.dropDeadline_results (s : State) (i : DeadlineItem) : (s.dropDeadline i).results = s.results := rfl

@[simp] theorem State.dropDeadline_pendingList (s : State) (i : DeadlineItem) : (s.dropDeadline i).pendingList = s.pendingList := rfl

@[simp] theorem State.dropDeadline_inFlight (s : State) (i : DeadlineItem) : (s.dropDeadline i).inFlight = s.inFlight := rfl

@[simp] theorem State.dropDeadline_portA (s : State) (i : DeadlineItem) : (s.dropDeadline i).portA = s.portA := rfl

@[simp] theorem State.dropDeadline_portB (s : State) (i : DeadlineItem) : (s.dropDeadline i).portB = s.portB := rfl

@[simp] theorem State.dropDeadline_ratio (s : State) (i : DeadlineItem) : (s.dropDeadline i).ratio = s.ratio := rfl

@[simp] theorem State.dropDeadline_converter (s : State) (i : DeadlineItem) : (s.dropDeadline i).converter = s.converter := rfl

@[simp] theorem State.dropDeadline_remote (s : State) (i : DeadlineItem) : (s.dropDeadline i).remote = s.remote := rfl

@[simp] theorem State.dropDeadline_bus (s : State) (i : DeadlineItem) : (s.dropDeadline i).bus = s.bus := rfl

/-! ## placeDeadline -/

@[simp] theorem State.placeDeadline_pending (s : State) (i : DeadlineItem) (t : Stamp) : (s.placeDeadline i t).pending = s.pending := rfl

@[simp] theorem State.placeDeadline_resetN (s : State) (i : DeadlineItem) (t : Stamp) : (s.placeDeadline i t).resetN = s.resetN := rfl

@[simp] theorem State.placeDeadline_channels (s : State) (i : DeadlineItem) (t : Stamp) : (s.placeDeadline i t).channels = s.channels := rfl

@[simp] theorem State.placeDeadline_results (s : State) (i : DeadlineItem) (t : Stamp) : (s.placeDeadline i t).results = s.results := rfl

@[simp] theorem State.placeDeadline_pendingList (s : State) (i : DeadlineItem) (t : Stamp) : (s.placeDeadline i t).pendingList = s.pendingList := rfl

@[simp] theorem State.placeDeadline_inFlight (s : State) (i : DeadlineItem) (t : Stamp) : (s.placeDeadline i t).inFlight = s.inFlight := rfl

@[simp] theorem State.placeDeadline_portA (s : State) (i : DeadlineItem) (t : Stamp) : (s.placeDeadline i t).portA = s.portA := rfl

@[simp] theorem State.placeDeadline_portB (s : State) (i : DeadlineItem) (t : Stamp) : (s.placeDeadline i t).portB = s.portB := rfl

@[simp] theorem State.placeDeadline_ratio (s : State) (i : DeadlineItem) (t : Stamp) : (s.placeDeadline i t).ratio = s.ratio := rfl

@[simp] theorem State.placeDeadline_converter (s : State) (i : DeadlineItem) (t : Stamp) : (s.placeDeadline i t).converter = s.converter := rfl

@[simp] theorem State.placeDeadline_remote (s : State) (i : DeadlineItem) (t : Stamp) : (s.placeDeadline i t).remote = s.remote := rfl

@[simp] theorem State.placeDeadline_bus (s : State) (i : DeadlineItem) (t : Stamp) : (s.placeDeadline i t).bus = s.bus := rfl

/-! ## enterBus -/

@[simp] theorem State.enterBus_pending (s : State) (c : BusControl) : (s.enterBus c).pending = s.pending := rfl

@[simp] theorem State.enterBus_resetN (s : State) (c : BusControl) : (s.enterBus c).resetN = s.resetN := rfl

@[simp] theorem State.enterBus_timebase (s : State) (c : BusControl) : (s.enterBus c).timebase = s.timebase := rfl

@[simp] theorem State.enterBus_channels (s : State) (c : BusControl) : (s.enterBus c).channels = s.channels := rfl

@[simp] theorem State.enterBus_results (s : State) (c : BusControl) : (s.enterBus c).results = s.results := rfl

@[simp] theorem State.enterBus_pendingList (s : State) (c : BusControl) : (s.enterBus c).pendingList = s.pendingList := rfl

@[simp] theorem State.enterBus_inFlight (s : State) (c : BusControl) : (s.enterBus c).inFlight = s.inFlight := rfl

@[simp] theorem State.enterBus_portA (s : State) (c : BusControl) : (s.enterBus c).portA = s.portA := rfl

@[simp] theorem State.enterBus_portB (s : State) (c : BusControl) : (s.enterBus c).portB = s.portB := rfl

@[simp] theorem State.enterBus_ratio (s : State) (c : BusControl) : (s.enterBus c).ratio = s.ratio := rfl

@[simp] theorem State.enterBus_converter (s : State) (c : BusControl) : (s.enterBus c).converter = s.converter := rfl

@[simp] theorem State.enterBus_remote (s : State) (c : BusControl) : (s.enterBus c).remote = s.remote := rfl

/-! ## Reading a port back -/

@[simp] theorem State.port_setPort (s : State) (p : Port) (x : PortState) : (s.setPort p x).port p = x := by
  cases p <;> rfl

theorem State.port_setPort_of_ne (s : State) (p q : Port) (x : PortState) (h : q ≠ p) :
    (s.setPort p x).port q = s.port q := by
  cases p <;> cases q <;> first | rfl | exact absurd rfl h

/-- The one rewrite a port read needs: the new value at the port set, the old one at the other. -/
theorem State.port_setPort_eq (s : State) (p q : Port) (x : PortState) :
    (s.setPort p x).port q = if q = p then x else s.port q := by
  cases p <;> cases q <;> rfl

@[simp] theorem State.setPort_port (s : State) (p : Port) : s.setPort p (s.port p) = s := by
  cases p <;> rfl

@[simp] theorem State.setPort_setPort (s : State) (p : Port) (x y : PortState) :
    (s.setPort p x).setPort p y = s.setPort p y := by
  cases p <;> rfl

theorem peer_ne (p : Port) : peer p ≠ p := by
  cases p <;> decide

@[simp] theorem State.port_peer_setPort (s : State) (p : Port) (x : PortState) :
    (s.setPort p x).port (peer p) = s.port (peer p) := by
  cases p <;> rfl

@[simp] theorem State.port_setChannel (s : State) (q : Port) (c : Channel) (x : ChannelRecord) : (s.setChannel c x).port q = s.port q := by
  cases q <;> rfl

@[simp] theorem State.port_setResult (s : State) (q : Port) (c : Channel) (x : ResultEntry) : (s.setResult c x).port q = s.port q := by
  cases q <;> rfl

@[simp] theorem State.port_setReserved (s : State) (q : Port) (c : Channel) (b : Bool) : (s.setReserved c b).port q = s.port q := by
  cases q <;> rfl

@[simp] theorem State.port_setRow (s : State) (q : Port) (r : RowNo) (x : Row) : (s.setRow r x).port q = s.port q := by
  cases q <;> rfl

@[simp] theorem State.port_dropDeadline (s : State) (q : Port) (i : DeadlineItem) : (s.dropDeadline i).port q = s.port q := by
  cases q <;> rfl

@[simp] theorem State.port_placeDeadline (s : State) (q : Port) (i : DeadlineItem) (t : Stamp) : (s.placeDeadline i t).port q = s.port q := by
  cases q <;> rfl

@[simp] theorem State.port_enterBus (s : State) (q : Port) (c : BusControl) : (s.enterBus c).port q = s.port q := by
  cases q <;> rfl

/-! ## Reading a table back -/

@[simp] theorem State.channel_setChannel (s : State) (c : Channel) (x : ChannelRecord) : (s.setChannel c x).channel c = x := by
  simp [State.channel, State.setChannel]

/-- The new value at the place set, the old one everywhere else. -/
theorem State.channel_setChannel_eq (s : State) (d : Channel) (c : Channel) (x : ChannelRecord) :
    (s.setChannel c x).channel d = if d = c then x else s.channel d := by
  by_cases h : d = c
  · subst h; simp
  · have h' : ¬ c.val = d.val := fun e => h (Fin.ext e).symm
    simp [State.channel, State.setChannel, h, h']

@[simp] theorem State.result_setResult (s : State) (c : Channel) (x : ResultEntry) : (s.setResult c x).result c = x := by
  simp [State.result, State.setResult]

/-- The new value at the place set, the old one everywhere else. -/
theorem State.result_setResult_eq (s : State) (d : Channel) (c : Channel) (x : ResultEntry) :
    (s.setResult c x).result d = if d = c then x else s.result d := by
  by_cases h : d = c
  · subst h; simp
  · have h' : ¬ c.val = d.val := fun e => h (Fin.ext e).symm
    simp [State.result, State.setResult, h, h']

@[simp] theorem State.row_setRow (s : State) (c : RowNo) (x : Row) : (s.setRow c x).row c = x := by
  simp [State.row, State.setRow]

/-- The new value at the place set, the old one everywhere else. -/
theorem State.row_setRow_eq (s : State) (d : RowNo) (c : RowNo) (x : Row) :
    (s.setRow c x).row d = if d = c then x else s.row d := by
  by_cases h : d = c
  · subst h; simp
  · have h' : ¬ c.val = d.val := fun e => h (Fin.ext e).symm
    simp [State.row, State.setRow, h, h']

/-- A slot read back: the new value at the slot set, the old one everywhere else. -/
theorem State.slot_setSlot_eq (s : State) (p q : Port) (i j : SlotNo) (x : Slot) :
    (s.setSlot p i x).slot q j = if q = p ∧ j = i then x else s.slot q j := by
  by_cases hp : q = p
  · subst hp
    by_cases h : j = i
    · subst h; simp [State.slot, State.setSlot]
    · have h' : ¬ i.val = j.val := fun e => h (Fin.ext e).symm
      simp [State.slot, State.setSlot, h, h']
  · simp [State.slot, State.setSlot, State.port_setPort_of_ne _ _ _ _ hp, hp]

@[simp] theorem State.slot_setSlot (s : State) (p : Port) (i : SlotNo) (x : Slot) : (s.setSlot p i x).slot p i = x := by
  simp [State.slot_setSlot_eq]

/-- A mark of a result entry changes nothing else of it. -/
theorem State.result_setReserved_eq (s : State) (c d : Channel) (b : Bool) :
    (s.setReserved c b).result d = if d = c then { s.result c with reserved := b } else s.result d := by
  simp [State.setReserved, State.result_setResult_eq]

@[simp] theorem State.channel_setPort (s : State) (d : Channel) (p : Port) (x : PortState) : (s.setPort p x).channel d = s.channel d := by
  cases p <;> rfl

@[simp] theorem State.channel_setResult (s : State) (d : Channel) (c : Channel) (x : ResultEntry) : (s.setResult c x).channel d = s.channel d := rfl

@[simp] theorem State.channel_setReserved (s : State) (d : Channel) (c : Channel) (b : Bool) : (s.setReserved c b).channel d = s.channel d := rfl

@[simp] theorem State.channel_setSlot (s : State) (d : Channel) (p : Port) (i : SlotNo) (x : Slot) : (s.setSlot p i x).channel d = s.channel d := by
  cases p <;> rfl

@[simp] theorem State.channel_setRow (s : State) (d : Channel) (r : RowNo) (x : Row) : (s.setRow r x).channel d = s.channel d := rfl

@[simp] theorem State.channel_dropDeadline (s : State) (d : Channel) (i : DeadlineItem) : (s.dropDeadline i).channel d = s.channel d := rfl

@[simp] theorem State.channel_placeDeadline (s : State) (d : Channel) (i : DeadlineItem) (t : Stamp) : (s.placeDeadline i t).channel d = s.channel d := rfl

@[simp] theorem State.channel_enterBus (s : State) (d : Channel) (c : BusControl) : (s.enterBus c).channel d = s.channel d := rfl

@[simp] theorem State.result_setPort (s : State) (d : Channel) (p : Port) (x : PortState) : (s.setPort p x).result d = s.result d := by
  cases p <;> rfl

@[simp] theorem State.result_setChannel (s : State) (d : Channel) (c : Channel) (x : ChannelRecord) : (s.setChannel c x).result d = s.result d := rfl

@[simp] theorem State.result_setSlot (s : State) (d : Channel) (p : Port) (i : SlotNo) (x : Slot) : (s.setSlot p i x).result d = s.result d := by
  cases p <;> rfl

@[simp] theorem State.result_setRow (s : State) (d : Channel) (r : RowNo) (x : Row) : (s.setRow r x).result d = s.result d := rfl

@[simp] theorem State.result_dropDeadline (s : State) (d : Channel) (i : DeadlineItem) : (s.dropDeadline i).result d = s.result d := rfl

@[simp] theorem State.result_placeDeadline (s : State) (d : Channel) (i : DeadlineItem) (t : Stamp) : (s.placeDeadline i t).result d = s.result d := rfl

@[simp] theorem State.result_enterBus (s : State) (d : Channel) (c : BusControl) : (s.enterBus c).result d = s.result d := rfl

@[simp] theorem State.row_setPort (s : State) (d : RowNo) (p : Port) (x : PortState) : (s.setPort p x).row d = s.row d := by
  cases p <;> rfl

@[simp] theorem State.row_setChannel (s : State) (d : RowNo) (c : Channel) (x : ChannelRecord) : (s.setChannel c x).row d = s.row d := rfl

@[simp] theorem State.row_setResult (s : State) (d : RowNo) (c : Channel) (x : ResultEntry) : (s.setResult c x).row d = s.row d := rfl

@[simp] theorem State.row_setReserved (s : State) (d : RowNo) (c : Channel) (b : Bool) : (s.setReserved c b).row d = s.row d := rfl

@[simp] theorem State.row_setSlot (s : State) (d : RowNo) (p : Port) (i : SlotNo) (x : Slot) : (s.setSlot p i x).row d = s.row d := by
  cases p <;> rfl

@[simp] theorem State.row_dropDeadline (s : State) (d : RowNo) (i : DeadlineItem) : (s.dropDeadline i).row d = s.row d := rfl

@[simp] theorem State.row_placeDeadline (s : State) (d : RowNo) (i : DeadlineItem) (t : Stamp) : (s.placeDeadline i t).row d = s.row d := rfl

@[simp] theorem State.row_enterBus (s : State) (d : RowNo) (c : BusControl) : (s.enterBus c).row d = s.row d := rfl

@[simp] theorem State.slot_setChannel (s : State) (q : Port) (j : SlotNo) (c : Channel) (x : ChannelRecord) : (s.setChannel c x).slot q j = s.slot q j := by
  cases q <;> rfl

@[simp] theorem State.slot_setResult (s : State) (q : Port) (j : SlotNo) (c : Channel) (x : ResultEntry) : (s.setResult c x).slot q j = s.slot q j := by
  cases q <;> rfl

@[simp] theorem State.slot_setReserved (s : State) (q : Port) (j : SlotNo) (c : Channel) (b : Bool) : (s.setReserved c b).slot q j = s.slot q j := by
  cases q <;> rfl

@[simp] theorem State.slot_setRow (s : State) (q : Port) (j : SlotNo) (r : RowNo) (x : Row) : (s.setRow r x).slot q j = s.slot q j := by
  cases q <;> rfl

@[simp] theorem State.slot_dropDeadline (s : State) (q : Port) (j : SlotNo) (i : DeadlineItem) : (s.dropDeadline i).slot q j = s.slot q j := by
  cases q <;> rfl

@[simp] theorem State.slot_placeDeadline (s : State) (q : Port) (j : SlotNo) (i : DeadlineItem) (t : Stamp) : (s.placeDeadline i t).slot q j = s.slot q j := by
  cases q <;> rfl

@[simp] theorem State.slot_enterBus (s : State) (q : Port) (j : SlotNo) (c : BusControl) : (s.enterBus c).slot q j = s.slot q j := by
  cases q <;> rfl

@[simp] theorem State.now_setPort (s : State) (p : Port) (x : PortState) : (s.setPort p x).now = s.now := by
  cases p <;> rfl

@[simp] theorem State.now_setChannel (s : State) (c : Channel) (x : ChannelRecord) : (s.setChannel c x).now = s.now := rfl

@[simp] theorem State.now_setResult (s : State) (c : Channel) (x : ResultEntry) : (s.setResult c x).now = s.now := rfl

@[simp] theorem State.now_setReserved (s : State) (c : Channel) (b : Bool) : (s.setReserved c b).now = s.now := rfl

@[simp] theorem State.now_setSlot (s : State) (p : Port) (i : SlotNo) (x : Slot) : (s.setSlot p i x).now = s.now := by
  cases p <;> rfl

@[simp] theorem State.now_setRow (s : State) (r : RowNo) (x : Row) : (s.setRow r x).now = s.now := rfl

@[simp] theorem State.now_dropDeadline (s : State) (i : DeadlineItem) : (s.dropDeadline i).now = s.now := rfl

@[simp] theorem State.now_placeDeadline (s : State) (i : DeadlineItem) (t : Stamp) : (s.placeDeadline i t).now = s.now := rfl

@[simp] theorem State.now_enterBus (s : State) (c : BusControl) : (s.enterBus c).now = s.now := rfl

end Sys2Proof.Machine
end

