-- ==== Sys2Proof/Laws/Frames.lean ====
section
/-! SUPPORT. The frame of every shared operation and of every command's effect: the fields of the state it leaves as they
were, in the order of the operations' own files. -/

namespace Sys2Proof.Machine

/-- A fold whose every step keeps a reading keeps it. -/
theorem foldl_keeps {α β γ : Type} (f : α → β → α) (g : α → γ) (h : ∀ a b, g (f a b) = g a) (l : List β) (a : α) :
    g (l.foldl f a) = g a := by
  induction l generalizing a with
  | nil => rfl
  | cons b l ih => rw [List.foldl_cons, ih, h]

@[simp] theorem State.raise_frame (s : State) (p : Port) (f : Flag) :
    (s.raise p f).pending = s.pending ∧ (s.raise p f).resetN = s.resetN ∧ (s.raise p f).timebase = s.timebase
       ∧ (s.raise p f).channels = s.channels ∧ (s.raise p f).results = s.results
       ∧ (s.raise p f).pendingList = s.pendingList ∧ (s.raise p f).inFlight = s.inFlight
       ∧ (s.raise p f).ratio = s.ratio ∧ (s.raise p f).converter = s.converter
       ∧ (s.raise p f).remote = s.remote ∧ (s.raise p f).bus = s.bus := by
  unfold State.raise
  (repeat' split) <;> simp

@[simp] theorem State.drive_frame (s : State) (p : Port) (w : Option Word) :
    (s.drive p w).pending = s.pending ∧ (s.drive p w).resetN = s.resetN ∧ (s.drive p w).timebase = s.timebase
       ∧ (s.drive p w).channels = s.channels ∧ (s.drive p w).results = s.results
       ∧ (s.drive p w).pendingList = s.pendingList ∧ (s.drive p w).inFlight = s.inFlight
       ∧ (s.drive p w).ratio = s.ratio ∧ (s.drive p w).converter = s.converter
       ∧ (s.drive p w).remote = s.remote ∧ (s.drive p w).bus = s.bus := by
  unfold State.drive
  simp

@[simp] theorem State.appendRecord_frame (s : State) (p : Port) (r : ResponseRecord) :
    (s.appendRecord p r).pending = s.pending ∧ (s.appendRecord p r).resetN = s.resetN
       ∧ (s.appendRecord p r).timebase = s.timebase ∧ (s.appendRecord p r).channels = s.channels
       ∧ (s.appendRecord p r).results = s.results ∧ (s.appendRecord p r).pendingList = s.pendingList
       ∧ (s.appendRecord p r).inFlight = s.inFlight ∧ (s.appendRecord p r).ratio = s.ratio
       ∧ (s.appendRecord p r).converter = s.converter ∧ (s.appendRecord p r).remote = s.remote
       ∧ (s.appendRecord p r).bus = s.bus := by
  unfold State.appendRecord
  simp

@[simp] theorem State.changeRecord_frame (s : State) (p : Port) (i : SlotNo) (f : ResponseRecord → ResponseRecord) :
    (s.changeRecord p i f).pending = s.pending ∧ (s.changeRecord p i f).resetN = s.resetN
       ∧ (s.changeRecord p i f).timebase = s.timebase ∧ (s.changeRecord p i f).channels = s.channels
       ∧ (s.changeRecord p i f).results = s.results ∧ (s.changeRecord p i f).pendingList = s.pendingList
       ∧ (s.changeRecord p i f).inFlight = s.inFlight ∧ (s.changeRecord p i f).ratio = s.ratio
       ∧ (s.changeRecord p i f).converter = s.converter ∧ (s.changeRecord p i f).remote = s.remote
       ∧ (s.changeRecord p i f).bus = s.bus := by
  unfold State.changeRecord
  simp

@[simp] theorem State.deliver_frame (s : State) (p : Port) (i : SlotNo) (o : Source) (q : ResultPart) :
    (s.deliver p i o q).pending = s.pending ∧ (s.deliver p i o q).resetN = s.resetN
       ∧ (s.deliver p i o q).timebase = s.timebase ∧ (s.deliver p i o q).channels = s.channels
       ∧ (s.deliver p i o q).results = s.results ∧ (s.deliver p i o q).pendingList = s.pendingList
       ∧ (s.deliver p i o q).inFlight = s.inFlight ∧ (s.deliver p i o q).ratio = s.ratio
       ∧ (s.deliver p i o q).converter = s.converter ∧ (s.deliver p i o q).remote = s.remote
       ∧ (s.deliver p i o q).bus = s.bus := by
  simp only [State.deliver]
  (repeat' split) <;> simp

@[simp] theorem State.endSlot_frame (s : State) (p : Port) (i : SlotNo) (d : Disposition) :
    (s.endSlot p i d).pending = s.pending ∧ (s.endSlot p i d).resetN = s.resetN
       ∧ (s.endSlot p i d).channels = s.channels ∧ (s.endSlot p i d).results = s.results
       ∧ (s.endSlot p i d).pendingList = s.pendingList ∧ (s.endSlot p i d).inFlight = s.inFlight
       ∧ (s.endSlot p i d).ratio = s.ratio ∧ (s.endSlot p i d).converter = s.converter
       ∧ (s.endSlot p i d).remote = s.remote ∧ (s.endSlot p i d).bus = s.bus := by
  simp only [State.endSlot]
  (repeat' split) <;> simp

@[simp] theorem State.acknowledge_frame (s : State) (p : Port) (v : Word) :
    (s.acknowledge p v).pending = s.pending ∧ (s.acknowledge p v).resetN = s.resetN
       ∧ (s.acknowledge p v).timebase = s.timebase ∧ (s.acknowledge p v).channels = s.channels
       ∧ (s.acknowledge p v).results = s.results ∧ (s.acknowledge p v).pendingList = s.pendingList
       ∧ (s.acknowledge p v).inFlight = s.inFlight ∧ (s.acknowledge p v).ratio = s.ratio
       ∧ (s.acknowledge p v).converter = s.converter ∧ (s.acknowledge p v).remote = s.remote
       ∧ (s.acknowledge p v).bus = s.bus := by
  unfold State.acknowledge
  (repeat' split) <;> simp

@[simp] theorem State.requestConversion_frame (s : State) (p : Port) (i : SlotNo) :
    (s.requestConversion p i).pending = s.pending ∧ (s.requestConversion p i).resetN = s.resetN
       ∧ (s.requestConversion p i).timebase = s.timebase ∧ (s.requestConversion p i).channels = s.channels
       ∧ (s.requestConversion p i).results = s.results ∧ (s.requestConversion p i).inFlight = s.inFlight
       ∧ (s.requestConversion p i).ratio = s.ratio ∧ (s.requestConversion p i).converter = s.converter
       ∧ (s.requestConversion p i).remote = s.remote ∧ (s.requestConversion p i).bus = s.bus := by
  simp only [State.requestConversion]
  (repeat' split) <;> simp

@[simp] theorem State.startConversion_frame (s : State) (e : Engine) (x : PendingEntry) :
    (s.startConversion e x).pending = s.pending ∧ (s.startConversion e x).resetN = s.resetN
       ∧ (s.startConversion e x).timebase = s.timebase ∧ (s.startConversion e x).channels = s.channels
       ∧ (s.startConversion e x).portA = s.portA ∧ (s.startConversion e x).portB = s.portB
       ∧ (s.startConversion e x).ratio = s.ratio ∧ (s.startConversion e x).converter = s.converter
       ∧ (s.startConversion e x).remote = s.remote ∧ (s.startConversion e x).bus = s.bus := by
  unfold State.startConversion
  simp

@[simp] theorem State.handOff_frame (s : State) (c : Channel) (o : ConversionOutcome) :
    (s.handOff c o).pending = s.pending ∧ (s.handOff c o).resetN = s.resetN
       ∧ (s.handOff c o).timebase = s.timebase ∧ (s.handOff c o).channels = s.channels
       ∧ (s.handOff c o).results = s.results ∧ (s.handOff c o).pendingList = s.pendingList
       ∧ (s.handOff c o).portA = s.portA ∧ (s.handOff c o).portB = s.portB ∧ (s.handOff c o).ratio = s.ratio
       ∧ (s.handOff c o).converter = s.converter ∧ (s.handOff c o).remote = s.remote
       ∧ (s.handOff c o).bus = s.bus := by
  unfold State.handOff
  simp

@[simp] theorem State.deliverAll_frame (s : State) (ws : List Waiter) (q : ResultPart) :
    (s.deliverAll ws q).pending = s.pending ∧ (s.deliverAll ws q).resetN = s.resetN
       ∧ (s.deliverAll ws q).timebase = s.timebase ∧ (s.deliverAll ws q).channels = s.channels
       ∧ (s.deliverAll ws q).results = s.results ∧ (s.deliverAll ws q).pendingList = s.pendingList
       ∧ (s.deliverAll ws q).inFlight = s.inFlight ∧ (s.deliverAll ws q).ratio = s.ratio
       ∧ (s.deliverAll ws q).converter = s.converter ∧ (s.deliverAll ws q).remote = s.remote
       ∧ (s.deliverAll ws q).bus = s.bus := by
  unfold State.deliverAll
  refine ⟨?_, ?_, ?_, ?_, ?_, ?_, ?_, ?_, ?_, ?_, ?_⟩
  · exact foldl_keeps _ State.pending (fun t x => by simp) _ _
  · exact foldl_keeps _ State.resetN (fun t x => by simp) _ _
  · exact foldl_keeps _ State.timebase (fun t x => by simp) _ _
  · exact foldl_keeps _ State.channels (fun t x => by simp) _ _
  · exact foldl_keeps _ State.results (fun t x => by simp) _ _
  · exact foldl_keeps _ State.pendingList (fun t x => by simp) _ _
  · exact foldl_keeps _ State.inFlight (fun t x => by simp) _ _
  · exact foldl_keeps _ State.ratio (fun t x => by simp) _ _
  · exact foldl_keeps _ State.converter (fun t x => by simp) _ _
  · exact foldl_keeps _ State.remote (fun t x => by simp) _ _
  · exact foldl_keeps _ State.bus (fun t x => by simp) _ _

@[simp] theorem State.complete_frame (s : State) (c : Channel) :
    (s.complete c).pending = s.pending ∧ (s.complete c).resetN = s.resetN
       ∧ (s.complete c).timebase = s.timebase ∧ (s.complete c).channels = s.channels
       ∧ (s.complete c).pendingList = s.pendingList ∧ (s.complete c).ratio = s.ratio
       ∧ (s.complete c).converter = s.converter ∧ (s.complete c).remote = s.remote
       ∧ (s.complete c).bus = s.bus := by
  unfold State.complete
  (repeat' split) <;> simp

@[simp] theorem State.removeWaiters_frame (s : State) (f : Waiter → Bool) :
    (s.removeWaiters f).pending = s.pending ∧ (s.removeWaiters f).resetN = s.resetN
       ∧ (s.removeWaiters f).timebase = s.timebase ∧ (s.removeWaiters f).channels = s.channels
       ∧ (s.removeWaiters f).results = s.results ∧ (s.removeWaiters f).portA = s.portA
       ∧ (s.removeWaiters f).portB = s.portB ∧ (s.removeWaiters f).ratio = s.ratio
       ∧ (s.removeWaiters f).converter = s.converter ∧ (s.removeWaiters f).remote = s.remote
       ∧ (s.removeWaiters f).bus = s.bus := by
  unfold State.removeWaiters
  simp

@[simp] theorem State.withdrawSlot_frame (s : State) (c : Channel) (w : Waiter) :
    (s.withdrawSlot c w).pending = s.pending ∧ (s.withdrawSlot c w).resetN = s.resetN
       ∧ (s.withdrawSlot c w).channels = s.channels ∧ (s.withdrawSlot c w).results = s.results
       ∧ (s.withdrawSlot c w).pendingList = s.pendingList ∧ (s.withdrawSlot c w).inFlight = s.inFlight
       ∧ (s.withdrawSlot c w).ratio = s.ratio ∧ (s.withdrawSlot c w).converter = s.converter
       ∧ (s.withdrawSlot c w).remote = s.remote ∧ (s.withdrawSlot c w).bus = s.bus := by
  simp only [State.withdrawSlot]
  (repeat' split) <;> simp

@[simp] theorem State.withdraw_frame (s : State) (c : Channel) :
    (s.withdraw c).pending = s.pending ∧ (s.withdraw c).resetN = s.resetN
       ∧ (s.withdraw c).channels = s.channels ∧ (s.withdraw c).results = s.results
       ∧ (s.withdraw c).inFlight = s.inFlight ∧ (s.withdraw c).ratio = s.ratio
       ∧ (s.withdraw c).converter = s.converter ∧ (s.withdraw c).remote = s.remote
       ∧ (s.withdraw c).bus = s.bus := by
  unfold State.withdraw
  refine ⟨?_, ?_, ?_, ?_, ?_, ?_, ?_, ?_, ?_⟩
  · exact foldl_keeps _ State.pending (fun t x => by simp) _ _
  · exact foldl_keeps _ State.resetN (fun t x => by simp) _ _
  · exact foldl_keeps _ State.channels (fun t x => by simp) _ _
  · exact foldl_keeps _ State.results (fun t x => by simp) _ _
  · exact foldl_keeps _ State.inFlight (fun t x => by simp) _ _
  · exact foldl_keeps _ State.ratio (fun t x => by simp) _ _
  · exact foldl_keeps _ State.converter (fun t x => by simp) _ _
  · exact foldl_keeps _ State.remote (fun t x => by simp) _ _
  · exact foldl_keeps _ State.bus (fun t x => by simp) _ _

@[simp] theorem State.discard_frame (s : State) (c : Channel) :
    (s.discard c).pending = s.pending ∧ (s.discard c).resetN = s.resetN ∧ (s.discard c).timebase = s.timebase
       ∧ (s.discard c).channels = s.channels ∧ (s.discard c).portA = s.portA ∧ (s.discard c).portB = s.portB
       ∧ (s.discard c).ratio = s.ratio ∧ (s.discard c).converter = s.converter
       ∧ (s.discard c).remote = s.remote ∧ (s.discard c).bus = s.bus := by
  unfold State.discard
  (repeat' split) <;> simp

@[simp] theorem State.quietOnset_frame (s : State) :
    s.quietOnset.pending = s.pending ∧ s.quietOnset.resetN = s.resetN ∧ s.quietOnset.timebase = s.timebase
       ∧ s.quietOnset.channels = s.channels ∧ s.quietOnset.portA = s.portA ∧ s.quietOnset.portB = s.portB
       ∧ s.quietOnset.ratio = s.ratio ∧ s.quietOnset.remote = s.remote ∧ s.quietOnset.bus = s.bus := by
  unfold State.quietOnset
  (repeat' split) <;> simp

@[simp] theorem State.quietEnds_frame (s : State) :
    s.quietEnds.pending = s.pending ∧ s.quietEnds.resetN = s.resetN ∧ s.quietEnds.timebase = s.timebase
       ∧ s.quietEnds.channels = s.channels ∧ s.quietEnds.results = s.results
       ∧ s.quietEnds.pendingList = s.pendingList ∧ s.quietEnds.inFlight = s.inFlight
       ∧ s.quietEnds.portA = s.portA ∧ s.quietEnds.portB = s.portB ∧ s.quietEnds.ratio = s.ratio
       ∧ s.quietEnds.remote = s.remote ∧ s.quietEnds.bus = s.bus := by
  unfold State.quietEnds
  (repeat' split) <;> simp

@[simp] theorem State.openQuiet_frame (s : State) (p : Port) (t : Stamp) :
    (s.openQuiet p t).pending = s.pending ∧ (s.openQuiet p t).resetN = s.resetN
       ∧ (s.openQuiet p t).channels = s.channels ∧ (s.openQuiet p t).ratio = s.ratio
       ∧ (s.openQuiet p t).remote = s.remote ∧ (s.openQuiet p t).bus = s.bus := by
  unfold State.openQuiet
  (repeat' split) <;> simp

@[simp] theorem State.closeQuiet_frame (s : State) (p : Port) :
    (s.closeQuiet p).pending = s.pending ∧ (s.closeQuiet p).resetN = s.resetN
       ∧ (s.closeQuiet p).channels = s.channels ∧ (s.closeQuiet p).results = s.results
       ∧ (s.closeQuiet p).pendingList = s.pendingList ∧ (s.closeQuiet p).inFlight = s.inFlight
       ∧ (s.closeQuiet p).ratio = s.ratio ∧ (s.closeQuiet p).remote = s.remote ∧ (s.closeQuiet p).bus = s.bus := by
  simp only [State.closeQuiet]
  (repeat' split) <;> simp

@[simp] theorem State.endClaim_frame (s : State) (c : Channel) :
    (s.endClaim c).pending = s.pending ∧ (s.endClaim c).resetN = s.resetN ∧ (s.endClaim c).results = s.results
       ∧ (s.endClaim c).pendingList = s.pendingList ∧ (s.endClaim c).inFlight = s.inFlight
       ∧ (s.endClaim c).portA = s.portA ∧ (s.endClaim c).portB = s.portB ∧ (s.endClaim c).ratio = s.ratio
       ∧ (s.endClaim c).converter = s.converter ∧ (s.endClaim c).remote = s.remote
       ∧ (s.endClaim c).bus = s.bus := by
  unfold State.endClaim
  simp

@[simp] theorem State.resetPort_frame (s : State) (p : Port) (l : Level) :
    (s.resetPort p l).pending = s.pending ∧ (s.resetPort p l).resetN = s.resetN
       ∧ (s.resetPort p l).results = s.results ∧ (s.resetPort p l).ratio = s.ratio
       ∧ (s.resetPort p l).remote = s.remote ∧ (s.resetPort p l).bus = s.bus := by
  simp only [State.resetPort]
  (repeat' split) <;> simp

@[simp] theorem State.releasePort_frame (s : State) (p : Port) :
    (s.releasePort p).pending = s.pending ∧ (s.releasePort p).resetN = s.resetN
       ∧ (s.releasePort p).timebase = s.timebase ∧ (s.releasePort p).channels = s.channels
       ∧ (s.releasePort p).results = s.results ∧ (s.releasePort p).pendingList = s.pendingList
       ∧ (s.releasePort p).inFlight = s.inFlight ∧ (s.releasePort p).ratio = s.ratio
       ∧ (s.releasePort p).converter = s.converter ∧ (s.releasePort p).remote = s.remote
       ∧ (s.releasePort p).bus = s.bus := by
  unfold State.releasePort
  simp

@[simp] theorem State.releaseDevice_frame (s : State) (x : Level) :
    (s.releaseDevice x).pending = s.pending ∧ (s.releaseDevice x).timebase = s.timebase
       ∧ (s.releaseDevice x).channels = s.channels ∧ (s.releaseDevice x).results = s.results
       ∧ (s.releaseDevice x).pendingList = s.pendingList ∧ (s.releaseDevice x).inFlight = s.inFlight
       ∧ (s.releaseDevice x).portA = s.portA ∧ (s.releaseDevice x).portB = s.portB
       ∧ (s.releaseDevice x).ratio = s.ratio ∧ (s.releaseDevice x).converter = s.converter
       ∧ (s.releaseDevice x).remote = s.remote := by
  unfold State.releaseDevice
  (repeat' split) <;> simp

@[simp] theorem State.arrive_frame (s : State) (e : Engine) (j : Job) :
    (s.arrive e j).pending = s.pending ∧ (s.arrive e j).resetN = s.resetN
       ∧ (s.arrive e j).timebase = s.timebase ∧ (s.arrive e j).channels = s.channels
       ∧ (s.arrive e j).results = s.results ∧ (s.arrive e j).pendingList = s.pendingList
       ∧ (s.arrive e j).inFlight = s.inFlight ∧ (s.arrive e j).portA = s.portA
       ∧ (s.arrive e j).portB = s.portB ∧ (s.arrive e j).converter = s.converter
       ∧ (s.arrive e j).remote = s.remote ∧ (s.arrive e j).bus = s.bus := by
  unfold State.arrive
  (repeat' split) <;> simp

@[simp] theorem State.localInputEmptied_frame (s : State) :
    s.localInputEmptied.pending = s.pending ∧ s.localInputEmptied.resetN = s.resetN
       ∧ s.localInputEmptied.timebase = s.timebase ∧ s.localInputEmptied.channels = s.channels
       ∧ s.localInputEmptied.results = s.results ∧ s.localInputEmptied.pendingList = s.pendingList
       ∧ s.localInputEmptied.inFlight = s.inFlight ∧ s.localInputEmptied.portA = s.portA
       ∧ s.localInputEmptied.portB = s.portB ∧ s.localInputEmptied.remote = s.remote
       ∧ s.localInputEmptied.bus = s.bus := by
  unfold State.localInputEmptied
  (repeat' split) <;> simp

@[simp] theorem State.remoteInputEmptied_frame (s : State) :
    s.remoteInputEmptied.pending = s.pending ∧ s.remoteInputEmptied.resetN = s.resetN
       ∧ s.remoteInputEmptied.timebase = s.timebase ∧ s.remoteInputEmptied.channels = s.channels
       ∧ s.remoteInputEmptied.results = s.results ∧ s.remoteInputEmptied.pendingList = s.pendingList
       ∧ s.remoteInputEmptied.inFlight = s.inFlight ∧ s.remoteInputEmptied.portA = s.portA
       ∧ s.remoteInputEmptied.portB = s.portB ∧ s.remoteInputEmptied.converter = s.converter
       ∧ s.remoteInputEmptied.bus = s.bus := by
  unfold State.remoteInputEmptied
  (repeat' split) <;> simp

@[simp] theorem State.divideLocal_frame (s : State) (j : Job) :
    (s.divideLocal j).pending = s.pending ∧ (s.divideLocal j).resetN = s.resetN
       ∧ (s.divideLocal j).timebase = s.timebase ∧ (s.divideLocal j).channels = s.channels
       ∧ (s.divideLocal j).results = s.results ∧ (s.divideLocal j).pendingList = s.pendingList
       ∧ (s.divideLocal j).inFlight = s.inFlight ∧ (s.divideLocal j).portA = s.portA
       ∧ (s.divideLocal j).portB = s.portB ∧ (s.divideLocal j).remote = s.remote
       ∧ (s.divideLocal j).bus = s.bus := by
  unfold State.divideLocal
  simp

@[simp] theorem State.divideRemote_frame (s : State) (j : Job) :
    (s.divideRemote j).pending = s.pending ∧ (s.divideRemote j).resetN = s.resetN
       ∧ (s.divideRemote j).timebase = s.timebase ∧ (s.divideRemote j).channels = s.channels
       ∧ (s.divideRemote j).results = s.results ∧ (s.divideRemote j).pendingList = s.pendingList
       ∧ (s.divideRemote j).inFlight = s.inFlight ∧ (s.divideRemote j).portA = s.portA
       ∧ (s.divideRemote j).portB = s.portB ∧ (s.divideRemote j).converter = s.converter
       ∧ (s.divideRemote j).bus = s.bus := by
  unfold State.divideRemote
  simp

@[simp] theorem State.dividerFreed_frame (s : State) :
    s.dividerFreed.pending = s.pending ∧ s.dividerFreed.resetN = s.resetN
       ∧ s.dividerFreed.timebase = s.timebase ∧ s.dividerFreed.channels = s.channels
       ∧ s.dividerFreed.results = s.results ∧ s.dividerFreed.pendingList = s.pendingList
       ∧ s.dividerFreed.inFlight = s.inFlight ∧ s.dividerFreed.portA = s.portA
       ∧ s.dividerFreed.portB = s.portB ∧ s.dividerFreed.bus = s.bus := by
  unfold State.dividerFreed
  (repeat' split) <;> simp

@[simp] theorem State.divisionEnd_frame (s : State) :
    s.divisionEnd.pending = s.pending ∧ s.divisionEnd.resetN = s.resetN ∧ s.divisionEnd.timebase = s.timebase
       ∧ s.divisionEnd.channels = s.channels ∧ s.divisionEnd.results = s.results
       ∧ s.divisionEnd.pendingList = s.pendingList ∧ s.divisionEnd.portA = s.portA
       ∧ s.divisionEnd.portB = s.portB ∧ s.divisionEnd.bus = s.bus := by
  unfold State.divisionEnd
  (repeat' split) <;> simp

@[simp] theorem State.localTake_frame (s : State) :
    s.localTake.pending = s.pending ∧ s.localTake.resetN = s.resetN ∧ s.localTake.timebase = s.timebase
       ∧ s.localTake.channels = s.channels ∧ s.localTake.portA = s.portA ∧ s.localTake.portB = s.portB
       ∧ s.localTake.ratio = s.ratio ∧ s.localTake.remote = s.remote ∧ s.localTake.bus = s.bus := by
  unfold State.localTake
  (repeat' split) <;> simp

@[simp] theorem State.localError_frame (s : State) (k : Current) (e : Status) :
    (s.localError k e).pending = s.pending ∧ (s.localError k e).resetN = s.resetN
       ∧ (s.localError k e).timebase = s.timebase ∧ (s.localError k e).channels = s.channels
       ∧ (s.localError k e).results = s.results ∧ (s.localError k e).pendingList = s.pendingList
       ∧ (s.localError k e).portA = s.portA ∧ (s.localError k e).portB = s.portB
       ∧ (s.localError k e).ratio = s.ratio ∧ (s.localError k e).remote = s.remote
       ∧ (s.localError k e).bus = s.bus := by
  unfold State.localError
  simp

@[simp] theorem State.endReference_frame (s : State) (k : Current) :
    (s.endReference k).pending = s.pending ∧ (s.endReference k).resetN = s.resetN
       ∧ (s.endReference k).timebase = s.timebase ∧ (s.endReference k).channels = s.channels
       ∧ (s.endReference k).results = s.results ∧ (s.endReference k).pendingList = s.pendingList
       ∧ (s.endReference k).portA = s.portA ∧ (s.endReference k).portB = s.portB
       ∧ (s.endReference k).ratio = s.ratio ∧ (s.endReference k).remote = s.remote
       ∧ (s.endReference k).bus = s.bus := by
  unfold State.endReference
  (repeat' split) <;> simp

@[simp] theorem State.offerLocal_frame (s : State) (k : Current) (j : Job) :
    (s.offerLocal k j).pending = s.pending ∧ (s.offerLocal k j).resetN = s.resetN
       ∧ (s.offerLocal k j).timebase = s.timebase ∧ (s.offerLocal k j).channels = s.channels
       ∧ (s.offerLocal k j).results = s.results ∧ (s.offerLocal k j).pendingList = s.pendingList
       ∧ (s.offerLocal k j).inFlight = s.inFlight ∧ (s.offerLocal k j).portA = s.portA
       ∧ (s.offerLocal k j).portB = s.portB ∧ (s.offerLocal k j).remote = s.remote
       ∧ (s.offerLocal k j).bus = s.bus := by
  unfold State.offerLocal
  (repeat' split) <;> simp

@[simp] theorem State.endSensing_frame (s : State) (k : Current) :
    (s.endSensing k).pending = s.pending ∧ (s.endSensing k).resetN = s.resetN
       ∧ (s.endSensing k).timebase = s.timebase ∧ (s.endSensing k).channels = s.channels
       ∧ (s.endSensing k).results = s.results ∧ (s.endSensing k).pendingList = s.pendingList
       ∧ (s.endSensing k).portA = s.portA ∧ (s.endSensing k).portB = s.portB
       ∧ (s.endSensing k).remote = s.remote ∧ (s.endSensing k).bus = s.bus := by
  unfold State.endSensing
  (repeat' split) <;> simp

@[simp] theorem State.oscillatorCycle_frame (s : State) :
    s.oscillatorCycle.pending = s.pending ∧ s.oscillatorCycle.resetN = s.resetN
       ∧ s.oscillatorCycle.timebase = s.timebase ∧ s.oscillatorCycle.channels = s.channels
       ∧ s.oscillatorCycle.results = s.results ∧ s.oscillatorCycle.pendingList = s.pendingList
       ∧ s.oscillatorCycle.portA = s.portA ∧ s.oscillatorCycle.portB = s.portB
       ∧ s.oscillatorCycle.ratio = s.ratio ∧ s.oscillatorCycle.remote = s.remote
       ∧ s.oscillatorCycle.bus = s.bus := by
  unfold State.oscillatorCycle
  (repeat' split) <;> simp

@[simp] theorem State.halfCycle_frame (s : State) :
    s.halfCycle.pending = s.pending ∧ s.halfCycle.resetN = s.resetN ∧ s.halfCycle.timebase = s.timebase
       ∧ s.halfCycle.channels = s.channels ∧ s.halfCycle.results = s.results
       ∧ s.halfCycle.pendingList = s.pendingList ∧ s.halfCycle.portA = s.portA ∧ s.halfCycle.portB = s.portB
       ∧ s.halfCycle.ratio = s.ratio ∧ s.halfCycle.remote = s.remote ∧ s.halfCycle.bus = s.bus := by
  unfold State.halfCycle
  (repeat' split) <;> simp

@[simp] theorem State.spanPeriod_frame (s : State) :
    s.spanPeriod.pending = s.pending ∧ s.spanPeriod.resetN = s.resetN ∧ s.spanPeriod.timebase = s.timebase
       ∧ s.spanPeriod.channels = s.channels ∧ s.spanPeriod.results = s.results
       ∧ s.spanPeriod.pendingList = s.pendingList ∧ s.spanPeriod.portA = s.portA ∧ s.spanPeriod.portB = s.portB
       ∧ s.spanPeriod.remote = s.remote ∧ s.spanPeriod.bus = s.bus := by
  unfold State.spanPeriod
  (repeat' split) <;> simp

@[simp] theorem State.fastPeriod_frame (s : State) :
    s.fastPeriod.pending = s.pending ∧ s.fastPeriod.resetN = s.resetN ∧ s.fastPeriod.channels = s.channels
       ∧ s.fastPeriod.results = s.results ∧ s.fastPeriod.pendingList = s.pendingList
       ∧ s.fastPeriod.portA = s.portA ∧ s.fastPeriod.portB = s.portB ∧ s.fastPeriod.remote = s.remote
       ∧ s.fastPeriod.bus = s.bus := by
  simp only [State.fastPeriod]
  (repeat' split) <;> simp

@[simp] theorem State.edge_frame (s : State) (e : CountEdge) :
    (s.edge e).pending = s.pending ∧ (s.edge e).resetN = s.resetN ∧ (s.edge e).channels = s.channels
       ∧ (s.edge e).results = s.results ∧ (s.edge e).pendingList = s.pendingList ∧ (s.edge e).portA = s.portA
       ∧ (s.edge e).portB = s.portB ∧ (s.edge e).remote = s.remote ∧ (s.edge e).bus = s.bus := by
  cases e <;> simp [State.edge]

@[simp] theorem State.edges_frame (s : State) (l : List CountEdge) :
    (s.edges l).pending = s.pending ∧ (s.edges l).resetN = s.resetN ∧ (s.edges l).channels = s.channels
       ∧ (s.edges l).results = s.results ∧ (s.edges l).pendingList = s.pendingList
       ∧ (s.edges l).portA = s.portA ∧ (s.edges l).portB = s.portB ∧ (s.edges l).remote = s.remote
       ∧ (s.edges l).bus = s.bus := by
  unfold State.edges
  refine ⟨?_, ?_, ?_, ?_, ?_, ?_, ?_, ?_, ?_⟩
  · exact foldl_keeps _ State.pending (fun t x => by simp) _ _
  · exact foldl_keeps _ State.resetN (fun t x => by simp) _ _
  · exact foldl_keeps _ State.channels (fun t x => by simp) _ _
  · exact foldl_keeps _ State.results (fun t x => by simp) _ _
  · exact foldl_keeps _ State.pendingList (fun t x => by simp) _ _
  · exact foldl_keeps _ State.portA (fun t x => by simp) _ _
  · exact foldl_keeps _ State.portB (fun t x => by simp) _ _
  · exact foldl_keeps _ State.remote (fun t x => by simp) _ _
  · exact foldl_keeps _ State.bus (fun t x => by simp) _ _

@[simp] theorem State.finishPeriods_frame (s : State) :
    s.finishPeriods.pending = s.pending ∧ s.finishPeriods.resetN = s.resetN
       ∧ s.finishPeriods.channels = s.channels ∧ s.finishPeriods.results = s.results
       ∧ s.finishPeriods.pendingList = s.pendingList ∧ s.finishPeriods.portA = s.portA
       ∧ s.finishPeriods.portB = s.portB ∧ s.finishPeriods.remote = s.remote ∧ s.finishPeriods.bus = s.bus := by
  unfold State.finishPeriods
  simp

/-- What an edge leaves of the Timebase: it counts periods and crystal cycles alone. -/
theorem State.edge_clock (s : State) (e : CountEdge) :
    (s.edge e).timebase.startState = s.timebase.startState ∧ (s.edge e).timebase.tick = s.timebase.tick
      ∧ (s.edge e).timebase.deadlines = s.timebase.deadlines ∧ (s.edge e).timebase.delivered = s.timebase.delivered := by
  cases e
  · simp [State.edge]
  · simp only [State.edge, State.fastPeriod]
    (repeat' split) <;> simp [Timebase.countPeriod]

/-- What edges leave of the Timebase. -/
@[simp] theorem State.edges_clock (s : State) (l : List CountEdge) :
    (s.edges l).timebase.startState = s.timebase.startState ∧ (s.edges l).timebase.tick = s.timebase.tick
      ∧ (s.edges l).timebase.deadlines = s.timebase.deadlines ∧ (s.edges l).timebase.delivered = s.timebase.delivered := by
  unfold State.edges
  refine ⟨?_, ?_, ?_, ?_⟩
  · exact foldl_keeps _ (fun t : State => t.timebase.startState) (fun t x => (t.edge_clock x).1) _ _
  · exact foldl_keeps _ (fun t : State => t.timebase.tick) (fun t x => (t.edge_clock x).2.1) _ _
  · exact foldl_keeps _ (fun t : State => t.timebase.deadlines) (fun t x => (t.edge_clock x).2.2.1) _ _
  · exact foldl_keeps _ (fun t : State => t.timebase.delivered) (fun t x => (t.edge_clock x).2.2.2) _ _

@[simp] theorem State.edges_nil (s : State) : s.edges [] = s := rfl

@[simp] theorem State.edges_cons (s : State) (e : CountEdge) (l : List CountEdge) :
    s.edges (e :: l) = (s.edge e).edges l := rfl

theorem State.edges_append (s : State) (k l : List CountEdge) : s.edges (k ++ l) = (s.edges k).edges l :=
  List.foldl_append

@[simp] theorem State.referencePhaseEnd_frame (s : State) :
    s.referencePhaseEnd.pending = s.pending ∧ s.referencePhaseEnd.resetN = s.resetN
       ∧ s.referencePhaseEnd.timebase = s.timebase ∧ s.referencePhaseEnd.channels = s.channels
       ∧ s.referencePhaseEnd.results = s.results ∧ s.referencePhaseEnd.pendingList = s.pendingList
       ∧ s.referencePhaseEnd.portA = s.portA ∧ s.referencePhaseEnd.portB = s.portB
       ∧ s.referencePhaseEnd.ratio = s.ratio ∧ s.referencePhaseEnd.remote = s.remote
       ∧ s.referencePhaseEnd.bus = s.bus := by
  unfold State.referencePhaseEnd
  (repeat' split) <;> simp

@[simp] theorem State.spanOverflow_frame (s : State) :
    s.spanOverflow.pending = s.pending ∧ s.spanOverflow.resetN = s.resetN
       ∧ s.spanOverflow.channels = s.channels ∧ s.spanOverflow.results = s.results
       ∧ s.spanOverflow.pendingList = s.pendingList ∧ s.spanOverflow.portA = s.portA
       ∧ s.spanOverflow.portB = s.portB ∧ s.spanOverflow.remote = s.remote ∧ s.spanOverflow.bus = s.bus := by
  unfold State.spanOverflow
  (repeat' split) <;> simp

@[simp] theorem State.sensingPhaseEnd_frame (s : State) :
    s.sensingPhaseEnd.pending = s.pending ∧ s.sensingPhaseEnd.resetN = s.resetN
       ∧ s.sensingPhaseEnd.channels = s.channels ∧ s.sensingPhaseEnd.results = s.results
       ∧ s.sensingPhaseEnd.pendingList = s.pendingList ∧ s.sensingPhaseEnd.portA = s.portA
       ∧ s.sensingPhaseEnd.portB = s.portB ∧ s.sensingPhaseEnd.remote = s.remote
       ∧ s.sensingPhaseEnd.bus = s.bus := by
  unfold State.sensingPhaseEnd
  (repeat' split) <;> simp

@[simp] theorem State.cycleCounterOverflow_frame (s : State) :
    s.cycleCounterOverflow.pending = s.pending ∧ s.cycleCounterOverflow.resetN = s.resetN
       ∧ s.cycleCounterOverflow.timebase = s.timebase ∧ s.cycleCounterOverflow.channels = s.channels
       ∧ s.cycleCounterOverflow.results = s.results ∧ s.cycleCounterOverflow.pendingList = s.pendingList
       ∧ s.cycleCounterOverflow.portA = s.portA ∧ s.cycleCounterOverflow.portB = s.portB
       ∧ s.cycleCounterOverflow.ratio = s.ratio ∧ s.cycleCounterOverflow.remote = s.remote
       ∧ s.cycleCounterOverflow.bus = s.bus := by
  unfold State.cycleCounterOverflow
  (repeat' split) <;> simp

@[simp] theorem State.remoteError_frame (s : State) (r : RowNo) (e : Status) :
    (s.remoteError r e).pending = s.pending ∧ (s.remoteError r e).resetN = s.resetN
       ∧ (s.remoteError r e).timebase = s.timebase ∧ (s.remoteError r e).channels = s.channels
       ∧ (s.remoteError r e).results = s.results ∧ (s.remoteError r e).pendingList = s.pendingList
       ∧ (s.remoteError r e).portA = s.portA ∧ (s.remoteError r e).portB = s.portB
       ∧ (s.remoteError r e).ratio = s.ratio ∧ (s.remoteError r e).converter = s.converter
       ∧ (s.remoteError r e).bus = s.bus := by
  unfold State.remoteError
  simp

@[simp] theorem State.settleRow_frame (s : State) (r : RowNo) (t : Stamp) (n : BitVec 4) :
    (s.settleRow r t n).pending = s.pending ∧ (s.settleRow r t n).resetN = s.resetN
       ∧ (s.settleRow r t n).channels = s.channels ∧ (s.settleRow r t n).results = s.results
       ∧ (s.settleRow r t n).pendingList = s.pendingList ∧ (s.settleRow r t n).inFlight = s.inFlight
       ∧ (s.settleRow r t n).portA = s.portA ∧ (s.settleRow r t n).portB = s.portB
       ∧ (s.settleRow r t n).ratio = s.ratio ∧ (s.settleRow r t n).converter = s.converter
       ∧ (s.settleRow r t n).bus = s.bus := by
  unfold State.settleRow
  simp

@[simp] theorem State.triggerOutcome_frame (s : State) (r : RowNo) (o : BusOutcome) :
    (s.triggerOutcome r o).pending = s.pending ∧ (s.triggerOutcome r o).resetN = s.resetN
       ∧ (s.triggerOutcome r o).channels = s.channels ∧ (s.triggerOutcome r o).results = s.results
       ∧ (s.triggerOutcome r o).pendingList = s.pendingList ∧ (s.triggerOutcome r o).portA = s.portA
       ∧ (s.triggerOutcome r o).portB = s.portB ∧ (s.triggerOutcome r o).ratio = s.ratio
       ∧ (s.triggerOutcome r o).converter = s.converter ∧ (s.triggerOutcome r o).bus = s.bus := by
  unfold State.triggerOutcome
  (repeat' split) <;> simp

@[simp] theorem State.offerRemote_frame (s : State) (r : RowNo) (m n : Word) :
    (s.offerRemote r m n).pending = s.pending ∧ (s.offerRemote r m n).resetN = s.resetN
       ∧ (s.offerRemote r m n).timebase = s.timebase ∧ (s.offerRemote r m n).channels = s.channels
       ∧ (s.offerRemote r m n).results = s.results ∧ (s.offerRemote r m n).pendingList = s.pendingList
       ∧ (s.offerRemote r m n).inFlight = s.inFlight ∧ (s.offerRemote r m n).portA = s.portA
       ∧ (s.offerRemote r m n).portB = s.portB ∧ (s.offerRemote r m n).converter = s.converter
       ∧ (s.offerRemote r m n).bus = s.bus := by
  unfold State.offerRemote
  (repeat' split) <;> simp

@[simp] theorem State.resultBlock_frame (s : State) (r : RowNo) (l : List Byte) :
    (s.resultBlock r l).pending = s.pending ∧ (s.resultBlock r l).resetN = s.resetN
       ∧ (s.resultBlock r l).channels = s.channels ∧ (s.resultBlock r l).results = s.results
       ∧ (s.resultBlock r l).pendingList = s.pendingList ∧ (s.resultBlock r l).portA = s.portA
       ∧ (s.resultBlock r l).portB = s.portB ∧ (s.resultBlock r l).converter = s.converter
       ∧ (s.resultBlock r l).bus = s.bus := by
  unfold State.resultBlock
  (repeat' split) <;> simp

@[simp] theorem State.readOutcome_frame (s : State) (r : RowNo) (o : BusOutcome) :
    (s.readOutcome r o).pending = s.pending ∧ (s.readOutcome r o).resetN = s.resetN
       ∧ (s.readOutcome r o).channels = s.channels ∧ (s.readOutcome r o).results = s.results
       ∧ (s.readOutcome r o).pendingList = s.pendingList ∧ (s.readOutcome r o).portA = s.portA
       ∧ (s.readOutcome r o).portB = s.portB ∧ (s.readOutcome r o).converter = s.converter
       ∧ (s.readOutcome r o).bus = s.bus := by
  unfold State.readOutcome
  (repeat' split) <;> simp

@[simp] theorem State.takeOutcome_frame (s : State) (o : BusOutcome) :
    (s.takeOutcome o).pending = s.pending ∧ (s.takeOutcome o).resetN = s.resetN
       ∧ (s.takeOutcome o).channels = s.channels ∧ (s.takeOutcome o).results = s.results
       ∧ (s.takeOutcome o).pendingList = s.pendingList ∧ (s.takeOutcome o).portA = s.portA
       ∧ (s.takeOutcome o).portB = s.portB ∧ (s.takeOutcome o).converter = s.converter
       ∧ (s.takeOutcome o).bus = s.bus := by
  unfold State.takeOutcome
  (repeat' split) <;> simp

@[simp] theorem State.takeReadExpiry_frame (s : State) (r : RowNo) :
    (s.takeReadExpiry r).pending = s.pending ∧ (s.takeReadExpiry r).resetN = s.resetN
       ∧ (s.takeReadExpiry r).channels = s.channels ∧ (s.takeReadExpiry r).results = s.results
       ∧ (s.takeReadExpiry r).pendingList = s.pendingList ∧ (s.takeReadExpiry r).inFlight = s.inFlight
       ∧ (s.takeReadExpiry r).portA = s.portA ∧ (s.takeReadExpiry r).portB = s.portB
       ∧ (s.takeReadExpiry r).ratio = s.ratio ∧ (s.takeReadExpiry r).converter = s.converter
       ∧ (s.takeReadExpiry r).bus = s.bus := by
  unfold State.takeReadExpiry
  (repeat' split) <;> simp

@[simp] theorem State.lineWentLow_frame (s : State) :
    s.lineWentLow.pending = s.pending ∧ s.lineWentLow.resetN = s.resetN ∧ s.lineWentLow.timebase = s.timebase
       ∧ s.lineWentLow.channels = s.channels ∧ s.lineWentLow.results = s.results
       ∧ s.lineWentLow.pendingList = s.pendingList ∧ s.lineWentLow.inFlight = s.inFlight
       ∧ s.lineWentLow.portA = s.portA ∧ s.lineWentLow.portB = s.portB ∧ s.lineWentLow.ratio = s.ratio
       ∧ s.lineWentLow.converter = s.converter ∧ s.lineWentLow.remote = s.remote := by
  unfold State.lineWentLow
  simp

@[simp] theorem State.sawStart_frame (s : State) :
    s.sawStart.pending = s.pending ∧ s.sawStart.resetN = s.resetN ∧ s.sawStart.timebase = s.timebase
       ∧ s.sawStart.channels = s.channels ∧ s.sawStart.results = s.results
       ∧ s.sawStart.pendingList = s.pendingList ∧ s.sawStart.inFlight = s.inFlight
       ∧ s.sawStart.portA = s.portA ∧ s.sawStart.portB = s.portB ∧ s.sawStart.ratio = s.ratio
       ∧ s.sawStart.converter = s.converter ∧ s.sawStart.remote = s.remote := by
  unfold State.sawStart
  simp

@[simp] theorem State.sawStop_frame (s : State) :
    s.sawStop.pending = s.pending ∧ s.sawStop.resetN = s.resetN ∧ s.sawStop.timebase = s.timebase
       ∧ s.sawStop.channels = s.channels ∧ s.sawStop.results = s.results
       ∧ s.sawStop.pendingList = s.pendingList ∧ s.sawStop.inFlight = s.inFlight ∧ s.sawStop.portA = s.portA
       ∧ s.sawStop.portB = s.portB ∧ s.sawStop.ratio = s.ratio ∧ s.sawStop.converter = s.converter
       ∧ s.sawStop.remote = s.remote := by
  unfold State.sawStop
  simp

@[simp] theorem State.endTransaction_frame (s : State) (o : BusOutcome) :
    (s.endTransaction o).pending = s.pending ∧ (s.endTransaction o).resetN = s.resetN
       ∧ (s.endTransaction o).channels = s.channels ∧ (s.endTransaction o).results = s.results
       ∧ (s.endTransaction o).pendingList = s.pendingList ∧ (s.endTransaction o).portA = s.portA
       ∧ (s.endTransaction o).portB = s.portB ∧ (s.endTransaction o).converter = s.converter := by
  unfold State.endTransaction
  simp

@[simp] theorem State.placeBusWait_frame (s : State) :
    s.placeBusWait.pending = s.pending ∧ s.placeBusWait.resetN = s.resetN
       ∧ s.placeBusWait.channels = s.channels ∧ s.placeBusWait.results = s.results
       ∧ s.placeBusWait.pendingList = s.pendingList ∧ s.placeBusWait.inFlight = s.inFlight
       ∧ s.placeBusWait.portA = s.portA ∧ s.placeBusWait.portB = s.portB ∧ s.placeBusWait.ratio = s.ratio
       ∧ s.placeBusWait.converter = s.converter ∧ s.placeBusWait.remote = s.remote
       ∧ s.placeBusWait.bus = s.bus := by
  unfold State.placeBusWait
  simp

@[simp] theorem State.lose_frame (s : State) :
    s.lose.pending = s.pending ∧ s.lose.resetN = s.resetN ∧ s.lose.channels = s.channels
       ∧ s.lose.results = s.results ∧ s.lose.pendingList = s.pendingList ∧ s.lose.portA = s.portA
       ∧ s.lose.portB = s.portB ∧ s.lose.converter = s.converter := by
  unfold State.lose
  (repeat' split) <;> simp

@[simp] theorem State.beginStart_frame (s : State) (x : Level) :
    (s.beginStart x).pending = s.pending ∧ (s.beginStart x).resetN = s.resetN
       ∧ (s.beginStart x).channels = s.channels ∧ (s.beginStart x).results = s.results
       ∧ (s.beginStart x).pendingList = s.pendingList ∧ (s.beginStart x).portA = s.portA
       ∧ (s.beginStart x).portB = s.portB ∧ (s.beginStart x).converter = s.converter := by
  unfold State.beginStart
  (repeat' split) <;> simp

@[simp] theorem State.enterWaitFree_frame (s : State) (x : Level) :
    (s.enterWaitFree x).pending = s.pending ∧ (s.enterWaitFree x).resetN = s.resetN
       ∧ (s.enterWaitFree x).channels = s.channels ∧ (s.enterWaitFree x).results = s.results
       ∧ (s.enterWaitFree x).pendingList = s.pendingList ∧ (s.enterWaitFree x).portA = s.portA
       ∧ (s.enterWaitFree x).portB = s.portB ∧ (s.enterWaitFree x).converter = s.converter := by
  simp only [State.enterWaitFree]
  (repeat' split) <;> simp

@[simp] theorem State.acceptTransaction_frame (s : State) (t : Transaction) (x : Level) :
    (s.acceptTransaction t x).pending = s.pending ∧ (s.acceptTransaction t x).resetN = s.resetN
       ∧ (s.acceptTransaction t x).channels = s.channels ∧ (s.acceptTransaction t x).results = s.results
       ∧ (s.acceptTransaction t x).pendingList = s.pendingList ∧ (s.acceptTransaction t x).portA = s.portA
       ∧ (s.acceptTransaction t x).portB = s.portB ∧ (s.acceptTransaction t x).converter = s.converter := by
  unfold State.acceptTransaction
  simp

@[simp] theorem State.attemptStart_frame (s : State) (x : Level) :
    (s.attemptStart x).pending = s.pending ∧ (s.attemptStart x).resetN = s.resetN
       ∧ (s.attemptStart x).channels = s.channels ∧ (s.attemptStart x).results = s.results
       ∧ (s.attemptStart x).pendingList = s.pendingList ∧ (s.attemptStart x).portA = s.portA
       ∧ (s.attemptStart x).portB = s.portB ∧ (s.attemptStart x).converter = s.converter := by
  unfold State.attemptStart
  (repeat' split) <;> simp

@[simp] theorem State.backoffEnd_frame (s : State) (x : Level) :
    (s.backoffEnd x).pending = s.pending ∧ (s.backoffEnd x).resetN = s.resetN
       ∧ (s.backoffEnd x).channels = s.channels ∧ (s.backoffEnd x).results = s.results
       ∧ (s.backoffEnd x).pendingList = s.pendingList ∧ (s.backoffEnd x).portA = s.portA
       ∧ (s.backoffEnd x).portB = s.portB ∧ (s.backoffEnd x).converter = s.converter := by
  unfold State.backoffEnd
  (repeat' split) <;> simp

@[simp] theorem State.releaseXcl_frame (s : State) (x : BusControl) :
    (s.releaseXcl x).pending = s.pending ∧ (s.releaseXcl x).resetN = s.resetN
       ∧ (s.releaseXcl x).channels = s.channels ∧ (s.releaseXcl x).results = s.results
       ∧ (s.releaseXcl x).pendingList = s.pendingList ∧ (s.releaseXcl x).inFlight = s.inFlight
       ∧ (s.releaseXcl x).portA = s.portA ∧ (s.releaseXcl x).portB = s.portB
       ∧ (s.releaseXcl x).ratio = s.ratio ∧ (s.releaseXcl x).converter = s.converter
       ∧ (s.releaseXcl x).remote = s.remote := by
  unfold State.releaseXcl
  simp

@[simp] theorem State.endHighHalf_frame (s : State) :
    s.endHighHalf.pending = s.pending ∧ s.endHighHalf.resetN = s.resetN ∧ s.endHighHalf.timebase = s.timebase
       ∧ s.endHighHalf.channels = s.channels ∧ s.endHighHalf.results = s.results
       ∧ s.endHighHalf.pendingList = s.pendingList ∧ s.endHighHalf.inFlight = s.inFlight
       ∧ s.endHighHalf.portA = s.portA ∧ s.endHighHalf.portB = s.portB ∧ s.endHighHalf.ratio = s.ratio
       ∧ s.endHighHalf.converter = s.converter ∧ s.endHighHalf.remote = s.remote := by
  unfold State.endHighHalf
  (repeat' split) <;> simp

@[simp] theorem State.halfBitPeriodEnd_frame (s : State) :
    s.halfBitPeriodEnd.pending = s.pending ∧ s.halfBitPeriodEnd.resetN = s.resetN
       ∧ s.halfBitPeriodEnd.channels = s.channels ∧ s.halfBitPeriodEnd.results = s.results
       ∧ s.halfBitPeriodEnd.pendingList = s.pendingList ∧ s.halfBitPeriodEnd.inFlight = s.inFlight
       ∧ s.halfBitPeriodEnd.portA = s.portA ∧ s.halfBitPeriodEnd.portB = s.portB
       ∧ s.halfBitPeriodEnd.ratio = s.ratio ∧ s.halfBitPeriodEnd.converter = s.converter
       ∧ s.halfBitPeriodEnd.remote = s.remote := by
  unfold State.halfBitPeriodEnd
  (repeat' split) <;> simp

@[simp] theorem State.xclSampledHigh_frame (s : State) (x : Level) :
    (s.xclSampledHigh x).pending = s.pending ∧ (s.xclSampledHigh x).resetN = s.resetN
       ∧ (s.xclSampledHigh x).channels = s.channels ∧ (s.xclSampledHigh x).results = s.results
       ∧ (s.xclSampledHigh x).pendingList = s.pendingList ∧ (s.xclSampledHigh x).portA = s.portA
       ∧ (s.xclSampledHigh x).portB = s.portB ∧ (s.xclSampledHigh x).converter = s.converter := by
  unfold State.xclSampledHigh
  (repeat' split) <;> simp

@[simp] theorem State.xclPulledLow_frame (s : State) :
    s.xclPulledLow.pending = s.pending ∧ s.xclPulledLow.resetN = s.resetN
       ∧ s.xclPulledLow.channels = s.channels ∧ s.xclPulledLow.results = s.results
       ∧ s.xclPulledLow.pendingList = s.pendingList ∧ s.xclPulledLow.portA = s.portA
       ∧ s.xclPulledLow.portB = s.portB ∧ s.xclPulledLow.converter = s.converter := by
  unfold State.xclPulledLow
  (repeat' split) <;> simp

@[simp] theorem State.foreignStart_frame (s : State) :
    s.foreignStart.pending = s.pending ∧ s.foreignStart.resetN = s.resetN
       ∧ s.foreignStart.channels = s.channels ∧ s.foreignStart.results = s.results
       ∧ s.foreignStart.pendingList = s.pendingList ∧ s.foreignStart.portA = s.portA
       ∧ s.foreignStart.portB = s.portB ∧ s.foreignStart.converter = s.converter := by
  unfold State.foreignStart
  (repeat' split) <;> simp

@[simp] theorem State.foreignStop_frame (s : State) :
    s.foreignStop.pending = s.pending ∧ s.foreignStop.resetN = s.resetN ∧ s.foreignStop.channels = s.channels
       ∧ s.foreignStop.results = s.results ∧ s.foreignStop.pendingList = s.pendingList
       ∧ s.foreignStop.portA = s.portA ∧ s.foreignStop.portB = s.portB ∧ s.foreignStop.converter = s.converter := by
  unfold State.foreignStop
  (repeat' split) <;> simp

@[simp] theorem State.seeCause_frame (s : State) (x : LossCause) :
    (s.seeCause x).pending = s.pending ∧ (s.seeCause x).resetN = s.resetN
       ∧ (s.seeCause x).timebase = s.timebase ∧ (s.seeCause x).channels = s.channels
       ∧ (s.seeCause x).results = s.results ∧ (s.seeCause x).pendingList = s.pendingList
       ∧ (s.seeCause x).inFlight = s.inFlight ∧ (s.seeCause x).portA = s.portA
       ∧ (s.seeCause x).portB = s.portB ∧ (s.seeCause x).ratio = s.ratio
       ∧ (s.seeCause x).converter = s.converter ∧ (s.seeCause x).remote = s.remote := by
  cases x <;> simp [State.seeCause]

@[simp] theorem State.lossOfArbitration_frame (s : State) (x : LossCause) :
    (s.lossOfArbitration x).pending = s.pending ∧ (s.lossOfArbitration x).resetN = s.resetN
       ∧ (s.lossOfArbitration x).channels = s.channels ∧ (s.lossOfArbitration x).results = s.results
       ∧ (s.lossOfArbitration x).pendingList = s.pendingList ∧ (s.lossOfArbitration x).portA = s.portA
       ∧ (s.lossOfArbitration x).portB = s.portB ∧ (s.lossOfArbitration x).converter = s.converter := by
  unfold State.lossOfArbitration
  (repeat' split) <;> simp

@[simp] theorem State.stopCompletes_frame (s : State) :
    s.stopCompletes.pending = s.pending ∧ s.stopCompletes.resetN = s.resetN
       ∧ s.stopCompletes.channels = s.channels ∧ s.stopCompletes.results = s.results
       ∧ s.stopCompletes.pendingList = s.pendingList ∧ s.stopCompletes.portA = s.portA
       ∧ s.stopCompletes.portB = s.portB ∧ s.stopCompletes.converter = s.converter := by
  unfold State.stopCompletes
  (repeat' split) <;> simp

@[simp] theorem State.takeHoldExpiry_frame (s : State) :
    s.takeHoldExpiry.pending = s.pending ∧ s.takeHoldExpiry.resetN = s.resetN
       ∧ s.takeHoldExpiry.channels = s.channels ∧ s.takeHoldExpiry.results = s.results
       ∧ s.takeHoldExpiry.pendingList = s.pendingList ∧ s.takeHoldExpiry.portA = s.portA
       ∧ s.takeHoldExpiry.portB = s.portB ∧ s.takeHoldExpiry.converter = s.converter := by
  unfold State.takeHoldExpiry
  (repeat' split) <;> simp

@[simp] theorem State.takeBusWaitExpiry_frame (s : State) :
    s.takeBusWaitExpiry.pending = s.pending ∧ s.takeBusWaitExpiry.resetN = s.resetN
       ∧ s.takeBusWaitExpiry.channels = s.channels ∧ s.takeBusWaitExpiry.results = s.results
       ∧ s.takeBusWaitExpiry.pendingList = s.pendingList ∧ s.takeBusWaitExpiry.portA = s.portA
       ∧ s.takeBusWaitExpiry.portB = s.portB ∧ s.takeBusWaitExpiry.converter = s.converter := by
  unfold State.takeBusWaitExpiry
  (repeat' split) <;> simp

@[simp] theorem State.chooseTrigger_frame (s : State) (x : Level) :
    (s.chooseTrigger x).pending = s.pending ∧ (s.chooseTrigger x).resetN = s.resetN
       ∧ (s.chooseTrigger x).channels = s.channels ∧ (s.chooseTrigger x).portA = s.portA
       ∧ (s.chooseTrigger x).portB = s.portB ∧ (s.chooseTrigger x).converter = s.converter := by
  unfold State.chooseTrigger
  (repeat' split) <;> simp

@[simp] theorem State.chooseRead_frame (s : State) (x : Level) :
    (s.chooseRead x).pending = s.pending ∧ (s.chooseRead x).resetN = s.resetN
       ∧ (s.chooseRead x).channels = s.channels ∧ (s.chooseRead x).results = s.results
       ∧ (s.chooseRead x).pendingList = s.pendingList ∧ (s.chooseRead x).portA = s.portA
       ∧ (s.chooseRead x).portB = s.portB ∧ (s.chooseRead x).converter = s.converter := by
  unfold State.chooseRead
  (repeat' split) <;> simp

@[simp] theorem State.takeClaimExpiry_frame (s : State) (c : Channel) :
    (s.takeClaimExpiry c).pending = s.pending ∧ (s.takeClaimExpiry c).resetN = s.resetN
       ∧ (s.takeClaimExpiry c).results = s.results ∧ (s.takeClaimExpiry c).pendingList = s.pendingList
       ∧ (s.takeClaimExpiry c).inFlight = s.inFlight ∧ (s.takeClaimExpiry c).ratio = s.ratio
       ∧ (s.takeClaimExpiry c).converter = s.converter ∧ (s.takeClaimExpiry c).remote = s.remote
       ∧ (s.takeClaimExpiry c).bus = s.bus := by
  unfold State.takeClaimExpiry
  (repeat' split) <;> simp

@[simp] theorem State.takeDueExpiry_frame (s : State) (p : Port) (i : SlotNo) :
    (s.takeDueExpiry p i).pending = s.pending ∧ (s.takeDueExpiry p i).resetN = s.resetN
       ∧ (s.takeDueExpiry p i).channels = s.channels ∧ (s.takeDueExpiry p i).results = s.results
       ∧ (s.takeDueExpiry p i).inFlight = s.inFlight ∧ (s.takeDueExpiry p i).ratio = s.ratio
       ∧ (s.takeDueExpiry p i).converter = s.converter ∧ (s.takeDueExpiry p i).remote = s.remote
       ∧ (s.takeDueExpiry p i).bus = s.bus := by
  simp only [State.takeDueExpiry]
  (repeat' split) <;> simp

@[simp] theorem State.takeQuietExpiry_frame (s : State) (p : Port) :
    (s.takeQuietExpiry p).pending = s.pending ∧ (s.takeQuietExpiry p).resetN = s.resetN
       ∧ (s.takeQuietExpiry p).channels = s.channels ∧ (s.takeQuietExpiry p).results = s.results
       ∧ (s.takeQuietExpiry p).pendingList = s.pendingList ∧ (s.takeQuietExpiry p).inFlight = s.inFlight
       ∧ (s.takeQuietExpiry p).ratio = s.ratio ∧ (s.takeQuietExpiry p).remote = s.remote
       ∧ (s.takeQuietExpiry p).bus = s.bus := by
  unfold State.takeQuietExpiry
  (repeat' split) <;> simp

@[simp] theorem State.takeExpiry_frame (s : State) (i : DeadlineItem) :
    (s.takeExpiry i).pending = s.pending ∧ (s.takeExpiry i).resetN = s.resetN
       ∧ (s.takeExpiry i).results = s.results := by
  cases i <;> simp [State.takeExpiry]

@[simp] theorem State.takeOutstanding_frame (s : State) :
    s.takeOutstanding.pending = s.pending ∧ s.takeOutstanding.resetN = s.resetN
       ∧ s.takeOutstanding.results = s.results := by
  unfold State.takeOutstanding
  refine ⟨?_, ?_, ?_⟩
  · exact foldl_keeps _ State.pending (fun t x => by simp) _ _
  · exact foldl_keeps _ State.resetN (fun t x => by simp) _ _
  · exact foldl_keeps _ State.results (fun t x => by simp) _ _

/-! ## The clock of the Timebase, which only edges, ticks, start-up and a device reset change -/

@[simp] theorem State.dropDeadline_clock (s : State) (i : DeadlineItem) :
    (s.dropDeadline i).timebase.startState = s.timebase.startState ∧ (s.dropDeadline i).timebase.tick = s.timebase.tick
      ∧ (s.dropDeadline i).timebase.subTick = s.timebase.subTick
      ∧ (s.dropDeadline i).timebase.crystalCycles = s.timebase.crystalCycles := by
  exact ⟨rfl, rfl, rfl, rfl⟩

@[simp] theorem State.placeDeadline_clock (s : State) (i : DeadlineItem) (t : Stamp) :
    (s.placeDeadline i t).timebase.startState = s.timebase.startState ∧ (s.placeDeadline i t).timebase.tick = s.timebase.tick
      ∧ (s.placeDeadline i t).timebase.subTick = s.timebase.subTick
      ∧ (s.placeDeadline i t).timebase.crystalCycles = s.timebase.crystalCycles := by
  exact ⟨rfl, rfl, rfl, rfl⟩

@[simp] theorem State.closeQuiet_clock (s : State) (p : Port) :
    (s.closeQuiet p).timebase.startState = s.timebase.startState ∧ (s.closeQuiet p).timebase.tick = s.timebase.tick
      ∧ (s.closeQuiet p).timebase.subTick = s.timebase.subTick
      ∧ (s.closeQuiet p).timebase.crystalCycles = s.timebase.crystalCycles := by
  simp only [State.closeQuiet]
  (repeat' split) <;> simp

@[simp] theorem State.endClaim_clock (s : State) (c : Channel) :
    (s.endClaim c).timebase.startState = s.timebase.startState ∧ (s.endClaim c).timebase.tick = s.timebase.tick
      ∧ (s.endClaim c).timebase.subTick = s.timebase.subTick
      ∧ (s.endClaim c).timebase.crystalCycles = s.timebase.crystalCycles := by
  unfold State.endClaim
  simp

@[simp] theorem State.settleRow_clock (s : State) (r : RowNo) (a : Stamp) (n : BitVec 4) :
    (s.settleRow r a n).timebase.startState = s.timebase.startState ∧ (s.settleRow r a n).timebase.tick = s.timebase.tick
      ∧ (s.settleRow r a n).timebase.subTick = s.timebase.subTick
      ∧ (s.settleRow r a n).timebase.crystalCycles = s.timebase.crystalCycles := by
  simp only [State.settleRow]
  simp

@[simp] theorem State.triggerOutcome_clock (s : State) (r : RowNo) (o : BusOutcome) :
    (s.triggerOutcome r o).timebase.startState = s.timebase.startState ∧ (s.triggerOutcome r o).timebase.tick = s.timebase.tick
      ∧ (s.triggerOutcome r o).timebase.subTick = s.timebase.subTick
      ∧ (s.triggerOutcome r o).timebase.crystalCycles = s.timebase.crystalCycles := by
  unfold State.triggerOutcome
  (repeat' split) <;> simp

@[simp] theorem State.resultBlock_clock (s : State) (r : RowNo) (l : List Byte) :
    (s.resultBlock r l).timebase.startState = s.timebase.startState ∧ (s.resultBlock r l).timebase.tick = s.timebase.tick
      ∧ (s.resultBlock r l).timebase.subTick = s.timebase.subTick
      ∧ (s.resultBlock r l).timebase.crystalCycles = s.timebase.crystalCycles := by
  unfold State.resultBlock
  (repeat' split) <;> simp

@[simp] theorem State.readOutcome_clock (s : State) (r : RowNo) (o : BusOutcome) :
    (s.readOutcome r o).timebase.startState = s.timebase.startState ∧ (s.readOutcome r o).timebase.tick = s.timebase.tick
      ∧ (s.readOutcome r o).timebase.subTick = s.timebase.subTick
      ∧ (s.readOutcome r o).timebase.crystalCycles = s.timebase.crystalCycles := by
  unfold State.readOutcome
  (repeat' split) <;> simp

@[simp] theorem State.takeOutcome_clock (s : State) (o : BusOutcome) :
    (s.takeOutcome o).timebase.startState = s.timebase.startState ∧ (s.takeOutcome o).timebase.tick = s.timebase.tick
      ∧ (s.takeOutcome o).timebase.subTick = s.timebase.subTick
      ∧ (s.takeOutcome o).timebase.crystalCycles = s.timebase.crystalCycles := by
  unfold State.takeOutcome
  (repeat' split) <;> simp

@[simp] theorem State.endTransaction_clock (s : State) (o : BusOutcome) :
    (s.endTransaction o).timebase.startState = s.timebase.startState ∧ (s.endTransaction o).timebase.tick = s.timebase.tick
      ∧ (s.endTransaction o).timebase.subTick = s.timebase.subTick
      ∧ (s.endTransaction o).timebase.crystalCycles = s.timebase.crystalCycles := by
  simp only [State.endTransaction]
  simp

@[simp] theorem State.takeReadExpiry_clock (s : State) (r : RowNo) :
    (s.takeReadExpiry r).timebase.startState = s.timebase.startState ∧ (s.takeReadExpiry r).timebase.tick = s.timebase.tick
      ∧ (s.takeReadExpiry r).timebase.subTick = s.timebase.subTick
      ∧ (s.takeReadExpiry r).timebase.crystalCycles = s.timebase.crystalCycles := by
  simp only [State.takeReadExpiry]
  (repeat' split) <;> simp

@[simp] theorem State.takeHoldExpiry_clock (s : State) :
    (s.takeHoldExpiry).timebase.startState = s.timebase.startState ∧ (s.takeHoldExpiry).timebase.tick = s.timebase.tick
      ∧ (s.takeHoldExpiry).timebase.subTick = s.timebase.subTick
      ∧ (s.takeHoldExpiry).timebase.crystalCycles = s.timebase.crystalCycles := by
  unfold State.takeHoldExpiry
  (repeat' split) <;> simp

@[simp] theorem State.takeBusWaitExpiry_clock (s : State) :
    (s.takeBusWaitExpiry).timebase.startState = s.timebase.startState ∧ (s.takeBusWaitExpiry).timebase.tick = s.timebase.tick
      ∧ (s.takeBusWaitExpiry).timebase.subTick = s.timebase.subTick
      ∧ (s.takeBusWaitExpiry).timebase.crystalCycles = s.timebase.crystalCycles := by
  unfold State.takeBusWaitExpiry
  (repeat' split) <;> simp

@[simp] theorem State.takeClaimExpiry_clock (s : State) (c : Channel) :
    (s.takeClaimExpiry c).timebase.startState = s.timebase.startState ∧ (s.takeClaimExpiry c).timebase.tick = s.timebase.tick
      ∧ (s.takeClaimExpiry c).timebase.subTick = s.timebase.subTick
      ∧ (s.takeClaimExpiry c).timebase.crystalCycles = s.timebase.crystalCycles := by
  unfold State.takeClaimExpiry
  (repeat' split) <;> simp

@[simp] theorem State.takeDueExpiry_clock (s : State) (p : Port) (i : SlotNo) :
    (s.takeDueExpiry p i).timebase.startState = s.timebase.startState ∧ (s.takeDueExpiry p i).timebase.tick = s.timebase.tick
      ∧ (s.takeDueExpiry p i).timebase.subTick = s.timebase.subTick
      ∧ (s.takeDueExpiry p i).timebase.crystalCycles = s.timebase.crystalCycles := by
  simp only [State.takeDueExpiry]
  (repeat' split) <;> simp

@[simp] theorem State.takeQuietExpiry_clock (s : State) (p : Port) :
    (s.takeQuietExpiry p).timebase.startState = s.timebase.startState ∧ (s.takeQuietExpiry p).timebase.tick = s.timebase.tick
      ∧ (s.takeQuietExpiry p).timebase.subTick = s.timebase.subTick
      ∧ (s.takeQuietExpiry p).timebase.crystalCycles = s.timebase.crystalCycles := by
  unfold State.takeQuietExpiry
  (repeat' split) <;> simp

@[simp] theorem State.takeExpiry_clock (s : State) (i : DeadlineItem) :
    (s.takeExpiry i).timebase.startState = s.timebase.startState ∧ (s.takeExpiry i).timebase.tick = s.timebase.tick
      ∧ (s.takeExpiry i).timebase.subTick = s.timebase.subTick
      ∧ (s.takeExpiry i).timebase.crystalCycles = s.timebase.crystalCycles := by
  cases i <;> simp [State.takeExpiry]

@[simp] theorem State.takeOutstanding_clock (s : State) :
    s.takeOutstanding.timebase.startState = s.timebase.startState ∧ s.takeOutstanding.timebase.tick = s.timebase.tick
      ∧ s.takeOutstanding.timebase.subTick = s.timebase.subTick
      ∧ s.takeOutstanding.timebase.crystalCycles = s.timebase.crystalCycles := by
  unfold State.takeOutstanding
  refine ⟨?_, ?_, ?_, ?_⟩
  · exact foldl_keeps _ (fun t : State => t.timebase.startState) (fun t x => (t.takeExpiry_clock x).1) _ _
  · exact foldl_keeps _ (fun t : State => t.timebase.tick) (fun t x => (t.takeExpiry_clock x).2.1) _ _
  · exact foldl_keeps _ (fun t : State => t.timebase.subTick) (fun t x => (t.takeExpiry_clock x).2.2.1) _ _
  · exact foldl_keeps _ (fun t : State => t.timebase.crystalCycles) (fun t x => (t.takeExpiry_clock x).2.2.2) _ _

@[simp] theorem State.tap_frame (s : State) (p : Port) :
    (s.tap p).pending = s.pending ∧ (s.tap p).resetN = s.resetN ∧ (s.tap p).timebase = s.timebase
       ∧ (s.tap p).channels = s.channels ∧ (s.tap p).results = s.results
       ∧ (s.tap p).pendingList = s.pendingList ∧ (s.tap p).inFlight = s.inFlight ∧ (s.tap p).ratio = s.ratio
       ∧ (s.tap p).converter = s.converter ∧ (s.tap p).remote = s.remote ∧ (s.tap p).bus = s.bus := by
  unfold State.tap
  (repeat' split) <;> simp

@[simp] theorem State.advanceTick_frame (s : State) (b : Bool) :
    (s.advanceTick b).pending = s.pending ∧ (s.advanceTick b).resetN = s.resetN
       ∧ (s.advanceTick b).channels = s.channels ∧ (s.advanceTick b).results = s.results
       ∧ (s.advanceTick b).pendingList = s.pendingList ∧ (s.advanceTick b).inFlight = s.inFlight
       ∧ (s.advanceTick b).ratio = s.ratio ∧ (s.advanceTick b).converter = s.converter
       ∧ (s.advanceTick b).remote = s.remote := by
  unfold State.advanceTick
  simp

@[simp] theorem State.tickEvent_frame (s : State) (x : TickInput) :
    (s.tickEvent x).pending = s.pending ∧ (s.tickEvent x).resetN = s.resetN
       ∧ (s.tickEvent x).results = s.results := by
  unfold State.tickEvent
  (repeat' split) <;> simp

@[simp] theorem State.startRunning_frame (s : State) :
    s.startRunning.pending = s.pending ∧ s.startRunning.resetN = s.resetN
       ∧ s.startRunning.channels = s.channels ∧ s.startRunning.results = s.results
       ∧ s.startRunning.pendingList = s.pendingList ∧ s.startRunning.inFlight = s.inFlight
       ∧ s.startRunning.portA = s.portA ∧ s.startRunning.portB = s.portB ∧ s.startRunning.ratio = s.ratio
       ∧ s.startRunning.converter = s.converter ∧ s.startRunning.remote = s.remote
       ∧ s.startRunning.bus = s.bus := by
  unfold State.startRunning
  (repeat' split) <;> simp

theorem State.decideCommit_frame (s : State) (p : Port) :
    let t := (s.decideCommit p).state
    t.pending = s.pending ∧ t.resetN = s.resetN ∧ t.ratio = s.ratio ∧ t.remote = s.remote ∧ t.bus = s.bus := by
  simp only [State.decideCommit, State.decideConvert, State.decideWatch, State.decideCancel, State.decideClaim,
    State.decideRelease, State.decideConfigure, State.decideQuiet, State.decideBadKind]
  (repeat' split) <;> simp [State.refuse, State.accept, State.acceptSlot]

@[simp] theorem State.commit_frame (s : State) (p : Port) :
    (s.commit p).pending = s.pending ∧ (s.commit p).resetN = s.resetN ∧ (s.commit p).ratio = s.ratio
       ∧ (s.commit p).remote = s.remote ∧ (s.commit p).bus = s.bus := by
  unfold State.commit Decision.report
  simpa using s.decideCommit_frame p

@[simp] theorem State.storeAt_frame (s : State) (p : Port) (a : BitVec 9) (w : Word) :
    (s.storeAt p a w).pending = s.pending ∧ (s.storeAt p a w).resetN = s.resetN
       ∧ (s.storeAt p a w).ratio = s.ratio ∧ (s.storeAt p a w).remote = s.remote
       ∧ (s.storeAt p a w).bus = s.bus := by
  unfold State.storeAt
  (repeat' split) <;> simp

@[simp] theorem State.dataWrite_frame (s : State) (c : DataCycle) (w : Word) :
    (s.dataWrite c w).pending = s.pending ∧ (s.dataWrite c w).resetN = s.resetN
       ∧ (s.dataWrite c w).ratio = s.ratio ∧ (s.dataWrite c w).remote = s.remote
       ∧ (s.dataWrite c w).bus = s.bus := by
  unfold State.dataWrite
  (repeat' split) <;> simp

@[simp] theorem State.controlWrite_frame (s : State) (p : Port) (b : Bool) (w : Word) :
    (s.controlWrite p b w).pending = s.pending ∧ (s.controlWrite p b w).resetN = s.resetN
       ∧ (s.controlWrite p b w).results = s.results ∧ (s.controlWrite p b w).ratio = s.ratio
       ∧ (s.controlWrite p b w).remote = s.remote ∧ (s.controlWrite p b w).bus = s.bus := by
  unfold State.controlWrite
  (repeat' split) <;> simp

@[simp] theorem State.pointerWrite_frame (s : State) (p : Port) (b : Bool) (w : Word) :
    (s.pointerWrite p b w).pending = s.pending ∧ (s.pointerWrite p b w).resetN = s.resetN
       ∧ (s.pointerWrite p b w).timebase = s.timebase ∧ (s.pointerWrite p b w).channels = s.channels
       ∧ (s.pointerWrite p b w).results = s.results ∧ (s.pointerWrite p b w).pendingList = s.pendingList
       ∧ (s.pointerWrite p b w).inFlight = s.inFlight ∧ (s.pointerWrite p b w).ratio = s.ratio
       ∧ (s.pointerWrite p b w).converter = s.converter ∧ (s.pointerWrite p b w).remote = s.remote
       ∧ (s.pointerWrite p b w).bus = s.bus := by
  unfold State.pointerWrite
  (repeat' split) <;> simp

@[simp] theorem State.takeSnapshot_frame (s : State) (p : Port) (r : RecordName) :
    (s.takeSnapshot p r).pending = s.pending ∧ (s.takeSnapshot p r).resetN = s.resetN
       ∧ (s.takeSnapshot p r).timebase = s.timebase ∧ (s.takeSnapshot p r).channels = s.channels
       ∧ (s.takeSnapshot p r).results = s.results ∧ (s.takeSnapshot p r).pendingList = s.pendingList
       ∧ (s.takeSnapshot p r).inFlight = s.inFlight ∧ (s.takeSnapshot p r).ratio = s.ratio
       ∧ (s.takeSnapshot p r).converter = s.converter ∧ (s.takeSnapshot p r).remote = s.remote
       ∧ (s.takeSnapshot p r).bus = s.bus := by
  unfold State.takeSnapshot
  simp

@[simp] theorem State.snapshotFor_frame (s : State) (p : Port) (a : BitVec 9) :
    (s.snapshotFor p a).pending = s.pending ∧ (s.snapshotFor p a).resetN = s.resetN
       ∧ (s.snapshotFor p a).timebase = s.timebase ∧ (s.snapshotFor p a).channels = s.channels
       ∧ (s.snapshotFor p a).results = s.results ∧ (s.snapshotFor p a).pendingList = s.pendingList
       ∧ (s.snapshotFor p a).inFlight = s.inFlight ∧ (s.snapshotFor p a).ratio = s.ratio
       ∧ (s.snapshotFor p a).converter = s.converter ∧ (s.snapshotFor p a).remote = s.remote
       ∧ (s.snapshotFor p a).bus = s.bus := by
  unfold State.snapshotFor
  (repeat' split) <;> simp

@[simp] theorem State.clearDriven_frame (s : State) (p : Port) (a : BitVec 9) (w : Word) :
    (s.clearDriven p a w).pending = s.pending ∧ (s.clearDriven p a w).resetN = s.resetN
       ∧ (s.clearDriven p a w).timebase = s.timebase ∧ (s.clearDriven p a w).channels = s.channels
       ∧ (s.clearDriven p a w).results = s.results ∧ (s.clearDriven p a w).pendingList = s.pendingList
       ∧ (s.clearDriven p a w).inFlight = s.inFlight ∧ (s.clearDriven p a w).ratio = s.ratio
       ∧ (s.clearDriven p a w).converter = s.converter ∧ (s.clearDriven p a w).remote = s.remote
       ∧ (s.clearDriven p a w).bus = s.bus := by
  unfold State.clearDriven
  (repeat' split) <;> simp

@[simp] theorem State.dataRead_frame (s : State) (p : Port) (b : Bool) :
    (s.dataRead p b).pending = s.pending ∧ (s.dataRead p b).resetN = s.resetN
       ∧ (s.dataRead p b).timebase = s.timebase ∧ (s.dataRead p b).channels = s.channels
       ∧ (s.dataRead p b).results = s.results ∧ (s.dataRead p b).pendingList = s.pendingList
       ∧ (s.dataRead p b).inFlight = s.inFlight ∧ (s.dataRead p b).ratio = s.ratio
       ∧ (s.dataRead p b).converter = s.converter ∧ (s.dataRead p b).remote = s.remote
       ∧ (s.dataRead p b).bus = s.bus := by
  unfold State.dataRead
  (repeat' split) <;> simp

@[simp] theorem State.readCycle_frame (s : State) (p : Port) (b : Bool) (x : Access) :
    (s.readCycle p b x).pending = s.pending ∧ (s.readCycle p b x).resetN = s.resetN
       ∧ (s.readCycle p b x).timebase = s.timebase ∧ (s.readCycle p b x).channels = s.channels
       ∧ (s.readCycle p b x).results = s.results ∧ (s.readCycle p b x).pendingList = s.pendingList
       ∧ (s.readCycle p b x).inFlight = s.inFlight ∧ (s.readCycle p b x).ratio = s.ratio
       ∧ (s.readCycle p b x).converter = s.converter ∧ (s.readCycle p b x).remote = s.remote
       ∧ (s.readCycle p b x).bus = s.bus := by
  unfold State.readCycle
  (repeat' split) <;> simp

@[simp] theorem State.earlyClose_frame (s : State) (p : Port) (b : Bool) (x : Access) (d : Bool) :
    (s.earlyClose p b x d).pending = s.pending ∧ (s.earlyClose p b x d).resetN = s.resetN
       ∧ (s.earlyClose p b x d).timebase = s.timebase ∧ (s.earlyClose p b x d).channels = s.channels
       ∧ (s.earlyClose p b x d).results = s.results ∧ (s.earlyClose p b x d).pendingList = s.pendingList
       ∧ (s.earlyClose p b x d).inFlight = s.inFlight ∧ (s.earlyClose p b x d).ratio = s.ratio
       ∧ (s.earlyClose p b x d).converter = s.converter ∧ (s.earlyClose p b x d).remote = s.remote
       ∧ (s.earlyClose p b x d).bus = s.bus := by
  unfold State.earlyClose
  (repeat' split) <;> simp

end Sys2Proof.Machine
end

