-- ==== Sys2Proof/Laws/Operations.lean ====
section
/-! SUPPORT. What each shared operation comes to in the words of the statements (`Sys2Proof.Statement`): one lemma for an
operation, so that a proof cites it and does not unfold the operation. -/

namespace Sys2Proof.Statement

open Sys2Proof.Machine

/-! ## Values at reset -/

theorem free_eq : Slot.free = freeSlotValues := rfl

theorem portReset_eq (pin : Level) : PortState.reset pin = portResetValues pin := rfl

theorem freeRow_eq : Row.free = freeRowValues := rfl

/-! ## Opening a cycle and moving the pointers -/

theorem opens_iff_Open (s : State) (p : Port) : s.opens p true = true ↔ Open s p := by
  simp [State.opens, State.held, Open]
  cases h1 : s.resetN <;> cases h2 : (s.port p).rstN <;> simp

theorem opens_unselected (s : State) (p : Port) : s.opens p false = false := rfl

theorem held_eq_false_iff_Open (s : State) (p : Port) : s.held p = false ↔ Open s p := by
  simp [State.held, Open]
  cases h1 : s.resetN <;> cases h2 : (s.port p).rstN <;> simp

theorem opens_of_Open {s : State} {p : Port} (h : Open s p) : s.opens p true = true := (opens_iff_Open s p).2 h

theorem advanceWrite_eq (x : PortState) :
    x.advanceWrite = { x with
      writePtr := x.writePtr + 1, readPtr := if x.control.getLsbD 0 = false then x.readPtr + 1 else x.readPtr } := by
  unfold PortState.advanceWrite
  by_cases h : x.control.getLsbD 0 = true
  · rw [if_pos (show pointerSplit x.control = true from h), if_neg (by rw [h]; simp)]
  · rw [if_neg (show ¬ pointerSplit x.control = true from h), if_pos (by simpa using h)]

theorem advanceRead_eq (x : PortState) :
    x.advanceRead = { x with
      readPtr := x.readPtr + 1, writePtr := if x.control.getLsbD 0 = false then x.writePtr + 1 else x.writePtr } := by
  unfold PortState.advanceRead
  by_cases h : x.control.getLsbD 0 = true
  · rw [if_pos (show pointerSplit x.control = true from h), if_neg (by rw [h]; simp)]
  · rw [if_neg (show ¬ pointerSplit x.control = true from h), if_pos (by simpa using h)]

/-- A DATA write that opens: the store, then the pointers. -/
theorem dataWrite_of_Open (s : State) (c : DataCycle) (w : Word) (hc : c.selected = true) (h : Open s c.port) :
    s.dataWrite c w =
      (let t := s.storeAt c.port (s.port c.port).writePtr w
       t.setPort c.port (afterWrite (t.port c.port) c.advance)) := by
  simp only [State.dataWrite, hc, opens_of_Open h, if_true, State.drive, advanceWrite_eq, afterWrite]
  cases c.advance <;> simp

theorem snapshotFor_taken (s : State) (p : Port) (a : BitVec 9) (name : RecordName) (k : Nat)
    (hk : windowTarget a = .record name k)
    (hb : k = 0 ∨ (s.port p).buffer = none ∨ ∃ b, (s.port p).buffer = some b ∧ b.record ≠ name) :
    s.snapshotFor p a = s.takeSnapshot p name := by
  have h : k = 0 ∨ (s.port p).holdsSnapshot name = false := by
    rcases hb with hb | hb | ⟨b, hb, hb'⟩
    · exact .inl hb
    · right; simp [PortState.holdsSnapshot, hb]
    · right; simp [PortState.holdsSnapshot, hb, hb']
  simp only [State.snapshotFor, hk, if_pos h]

theorem snapshotFor_kept (s : State) (p : Port) (a : BitVec 9)
    (hk : ∀ name k, windowTarget a = .record name k → k ≠ 0 ∧ ∃ b, (s.port p).buffer = some b ∧ b.record = name) :
    s.snapshotFor p a = s := by
  simp only [State.snapshotFor]
  split
  · rename_i r o ho
    obtain ⟨h1, b, h2, h3⟩ := hk _ _ ho
    have : ¬ (o = 0 ∨ (s.port p).holdsSnapshot r = false) := by simp [h1, PortState.holdsSnapshot, h2, h3]
    rw [if_neg this]
  all_goals rfl

/-! ## Commits -/

/-- The state with the command word of a commit stored (R19). -/
def stored (s : State) (c : DataCycle) (w : Word) : State :=
  s.setPort c.port { s.port c.port with staging := { (s.port c.port).staging with command := w } }

/-- The end of a commit cycle: the submit status of a decision, then the pointers. -/
def concluded (d : Decision) (c : DataCycle) : State :=
  d.state.setPort c.port (afterWrite { d.state.port c.port with
    submitCount := (d.state.port c.port).submitCount + 1, submitCode := d.code, submitSlot := d.slot } c.advance)

theorem dataWrite_commit (s : State) (c : DataCycle) (w : Word) (h1 : c.selected = true) (h2 : Open s c.port)
    (h3 : (s.port c.port).writePtr = 0x010) :
    s.dataWrite c w = concluded ((stored s c w).decideCommit c.port) c := by
  rw [dataWrite_of_Open s c w h1 h2, h3]
  have hk : windowTarget 0x010 = .staging 0 := by decide
  simp only [State.storeAt, hk, if_true, Staging.store, State.commit, Decision.report, concluded, stored]
  simp

@[simp] theorem stored_port (s : State) (c : DataCycle) (w : Word) :
    (stored s c w).port c.port =
      { s.port c.port with staging := { (s.port c.port).staging with command := w } } := by simp [stored]

@[simp] theorem stored_resetN (s : State) (c : DataCycle) (w : Word) : (stored s c w).resetN = s.resetN := by simp [stored]

@[simp] theorem stored_channels (s : State) (c : DataCycle) (w : Word) : (stored s c w).channels = s.channels := by
  simp [stored]

@[simp] theorem stored_results (s : State) (c : DataCycle) (w : Word) : (stored s c w).results = s.results := by
  simp [stored]

@[simp] theorem stored_timebase (s : State) (c : DataCycle) (w : Word) : (stored s c w).timebase = s.timebase := by
  simp [stored]

@[simp] theorem stored_pendingList (s : State) (c : DataCycle) (w : Word) :
    (stored s c w).pendingList = s.pendingList := by simp [stored]

@[simp] theorem stored_inFlight (s : State) (c : DataCycle) (w : Word) : (stored s c w).inFlight = s.inFlight := by
  simp [stored]

@[simp] theorem stored_converter (s : State) (c : DataCycle) (w : Word) : (stored s c w).converter = s.converter := by
  simp [stored]

/-- Once the Timebase is RUNNING the command word alone chooses the decision (R20). -/
theorem decideCommit_running (s : State) (c : DataCycle) (w : Word) (hr : s.timebase.startState = .running) :
    (stored s c w).decideCommit c.port = (match w.toNat with
      | 1 => (stored s c w).decideConvert c.port
      | 2 => (stored s c w).decideWatch c.port
      | 3 => (stored s c w).decideCancel c.port
      | 4 => (stored s c w).decideClaim c.port
      | 5 => (stored s c w).decideRelease c.port
      | 6 => (stored s c w).decideConfigure c.port
      | 7 => (stored s c w).decideQuiet c.port
      | _ => (stored s c w).decideBadKind) := by
  unfold State.decideCommit
  have h : (stored s c w).timebase.startState = .running := by rw [stored_timebase, hr]
  have hw : ((stored s c w).staging c.port).command = w := by simp [State.staging]
  first
    | (rw [h, hw]; rfl)
    | rw [h, hw]

theorem concluded_refuse (s : State) (c : DataCycle) (w : Word) (code : SubmitCode) :
    concluded ((stored s c w).refuse code) c = answered s c w code none := by
  simp only [concluded, State.refuse, answered, submitted, stored_port]
  simp only [stored, State.setPort_setPort]

theorem concluded_stored (v : State) (c : DataCycle) (w : Word) (code : SubmitCode) (slot : Option SlotNo) :
    concluded { state := stored v c w, code := code, slot := slot } c = answered v c w code slot := by
  simp only [concluded, answered, submitted, stored_port]
  simp only [stored, State.setPort_setPort]

/-! ## Words, channels and slots -/

theorem inRange_iff (w : Word) (lo hi : Nat) : inRange w lo hi = true ↔ lo ≤ w.toNat ∧ w.toNat ≤ hi := by simp [inRange]

theorem channelOf_eq_none {w : Word} (h : 16 ≤ w.toNat) : channelOf w = none := by simp [channelOf, Nat.not_lt.2 h]

theorem channelOf_eq_some {w : Word} {ch : Channel} (h : w.toNat = ch.val) : channelOf w = some ch := by
  simp [channelOf, h]

theorem slotOf_eq_none {w : Word} (h : 12 ≤ w.toNat) : slotOf w = none := by simp [slotOf, Nat.not_lt.2 h]

theorem slotOf_eq_some {w : Word} {i : SlotNo} (h : w.toNat = i.val) : slotOf w = some i := by
  simp [slotOf, h]

theorem find_finRange {n : Nat} (P : Fin n → Bool) (i : Fin n) (h : P i = true) (hl : ∀ j, j < i → P j = false) :
    (List.finRange n).find? P = some i := by
  rw [List.find?_eq_some_iff_getElem]
  refine ⟨h, i.val, by simp, by simp, ?_⟩
  intro j hj
  simp
  exact hl ⟨j, by omega⟩ hj

theorem find_finRange_none {n : Nat} (P : Fin n → Bool) (hl : ∀ j, P j = false) : (List.finRange n).find? P = none := by
  rw [List.find?_eq_none]; intro x _; simp [hl]

theorem freeSlot_of_LowestFree {s : State} {p : Port} {i : SlotNo} (h : LowestFree (s.port p) i) :
    s.freeSlot p = some i :=
  find_finRange _ i (decide_eq_true h.1) (fun j hj => decide_eq_false (h.2 j hj))

theorem freeSlot_of_NoFree {s : State} {p : Port} (h : NoFree (s.port p)) : s.freeSlot p = none :=
  find_finRange_none _ (fun j => decide_eq_false (h j))

theorem stored_LowestFree (s : State) (c : DataCycle) (w : Word) (i : SlotNo) :
    LowestFree ((stored s c w).port c.port) i ↔ LowestFree (s.port c.port) i := by simp [LowestFree]

theorem stored_NoFree (s : State) (c : DataCycle) (w : Word) :
    NoFree ((stored s c w).port c.port) ↔ NoFree (s.port c.port) := by simp [NoFree]

theorem stored_Reusable (s : State) (c : DataCycle) (w : Word) (ch : Channel) (m : Word) :
    Reusable (stored s c w) ch m ↔ Reusable s ch m := by simp [Reusable]

theorem reusePasses_iff_Reusable (s : State) (ch : Channel) (m : Word) : s.reusePasses ch m = true ↔ Reusable s ch m := by
  simp only [State.reusePasses, Bool.and_eq_true, decide_eq_true_eq, and_assoc]; exact Iff.rfl

theorem joinOrPlace_eq_requested (l : List PendingEntry) (ch : Channel) (w : Waiter) :
    joinOrPlace ch w l = requested l ch w := by
  simp only [joinOrPlace, requested]
  by_cases h : ch ∈ l.map (·.channel)
  · rw [if_pos h, if_pos]; simpa using h
  · rw [if_neg h, if_neg]; simpa using h

/-! ## Deadlines, flags and quiet -/

theorem placeDeadline_eq (s : State) (i : DeadlineItem) (t : Stamp) : s.placeDeadline i t = withDeadline s i t := by
  simp [State.placeDeadline, withDeadline, Timebase.dropAll]

theorem dropDeadline_eq (s : State) (i : DeadlineItem) : s.dropDeadline i = without s i := by
  simp [State.dropDeadline, without, Timebase.dropAll]

theorem expiryDue_iff (s : State) (i : DeadlineItem) : s.expiryDue i = true ↔ i ∈ s.timebase.delivered := by
  simp [State.expiryDue]

theorem raise_eq_flagged (s : State) (p : Port) (f : Flag) : s.raise p f = flagged s p (fun x => x.raise f) := by
  simp only [State.raise, flagged]
  by_cases h : s.resetN = .high ∧ (s.port p).rstN = .high
  · rw [if_neg (by rw [(held_eq_false_iff_Open s p).2 h]; simp), if_pos h]
  · rw [if_pos, if_neg h]
    cases hh : s.held p with
    | true => rfl
    | false => exact absurd ((held_eq_false_iff_Open s p).1 hh) h

theorem quietEnds_eq (s : State) : s.quietEnds = { s with converter := unheld s.converter } := by
  cases s with | mk a b c d e f g h i j k l m =>
  cases k with | mk st x y => cases st <;> rfl

theorem quietActive_eq_false_iff (s : State) : s.quietActive = false ↔ NoWindow s := by
  simp [State.quietActive, NoWindow]

theorem requeue_eq_requeued (r : ConversionRecord) (l : List PendingEntry) : requeue r l = requeued r l := by
  simp only [requeue, requeued]
  by_cases h : r.waiters = []
  · rw [if_pos h, if_pos (by simp [h])]
  · rw [if_neg h, if_neg (by simpa using h)]
    rfl

/-! ## The Ratio Unit -/

theorem converterHandedOff_eq (s : State) : s.converterHandedOff = handedOff s := by
  simp only [State.converterHandedOff, handedOff]
  by_cases h : NoWindow s
  · rw [(quietActive_eq_false_iff s).2 h, if_pos (show s.portA.quietEnd = none ∧ s.portB.quietEnd = none from h)]; rfl
  · have hq : s.quietActive = true := by
      cases hh : s.quietActive with
      | true => rfl
      | false => exact absurd ((quietActive_eq_false_iff s).1 hh) h
    rw [hq, if_neg (show ¬ (s.portA.quietEnd = none ∧ s.portB.quietEnd = none) from h)]; rfl

/-! ## Counting -/

theorem Runs_iff (s : State) : s.ticks = true ↔ Runs s := by simp [State.ticks, Runs]

theorem periodLeft_iff (s : State) : s.periodLeft = true ↔ Runs s ∧ periods s < 128 := by
  simp only [State.periodLeft, Bool.and_eq_true, Runs_iff, decide_eq_true_eq]; exact Iff.rfl

theorem countPeriod_eq (s : State) (h : periods s < 128) :
    { s with timebase := s.timebase.countPeriod } = onePeriod s := by
  have h1 : (s.timebase.subTick + 1).toNat = periods s + 1 := by
    unfold periods at *; rw [BitVec.toNat_add]; simp; omega
  simp only [onePeriod, Timebase.countPeriod, h1, Config.fastPeriodsPerSlow]
  split <;> rfl

theorem endsAt_iff (clock : SpanClock) (k : Nat) : clock.endsAt k = true ↔ (clock = .slow → k % 4 = 0) := by
  cases clock
  · exact (decide_eq_true_iff (p := k % Config.fastPeriodsPerSlow = 0)).trans ⟨fun h _ => h, fun h => h rfl⟩
  · simp [SpanClock.endsAt]

/-- A FAST period that the tick still has: counted, and a period of the conversion's span clock when one ends with it. -/
theorem fastPeriod_eq (s : State) (h : Runs s) (hk : periods s < 128) :
    s.fastPeriod = if s.converter.state.periodEndsAt (periods s + 1) = true then (onePeriod s).spanPeriod else onePeriod s := by
  have h1 : (s.timebase.subTick + 1).toNat = periods s + 1 := by
    unfold periods at *; rw [BitVec.toNat_add]; simp; omega
  simp only [State.fastPeriod]
  rw [if_pos ((periodLeft_iff s).2 ⟨h, hk⟩)]
  have h2 : s.timebase.countPeriod.subTick.toNat = periods s + 1 := h1
  simp only [h2, countPeriod_eq s hk]

theorem fastPeriod_none (s : State) (h : ¬ (Runs s ∧ periods s < 128)) : s.fastPeriod = s := by
  simp only [State.fastPeriod]
  rw [if_neg (by rw [periodLeft_iff]; exact h)]

theorem periodNext_iff (s : State) (cur : Current) (hc : s.converter.state = .ref cur ∨ s.converter.state = .sense cur) :
    s.periodNext = true ↔ SpanPeriodNext s cur.spanClock := by
  simp only [State.periodNext, Bool.and_eq_true, periodLeft_iff, SpanPeriodNext, and_assoc]
  rcases hc with hc | hc <;> simp only [hc, ConverterState.periodEndsAt, endsAt_iff] <;> rfl

theorem fastPeriod_not_counting (s : State) (hc : s.converter.state.counting = false) (h : Runs s) (hk : periods s < 128) :
    s.fastPeriod = onePeriod s := by
  rw [fastPeriod_eq s h hk, if_neg]
  intro he
  cases hs : s.converter.state <;> rw [hs] at hc he
  case ref => cases hc
  case sense => cases hc
  all_goals cases he

theorem halfCycle_not_counting (s : State) (h : s.converter.state.counting = false) : s.halfCycle = s := by
  unfold State.halfCycle; rw [h]; rfl

theorem halfCycle_low (s : State) (h : s.converter.state.counting = true) (hw : s.converter.wave = .low) :
    s.halfCycle = { s with converter := { s.converter with wave := .high } } := by
  unfold State.halfCycle; rw [if_pos h, hw]

theorem halfCycle_high (s : State) (h : s.converter.state.counting = true) (hw : s.converter.wave = .high) :
    s.halfCycle = ({ s with converter := { s.converter with wave := .low } } : State).oscillatorCycle := by
  unfold State.halfCycle; rw [if_pos h, hw]

theorem inAttempt_eq_false_iff (s : State) : s.bus.control.inAttempt = false ↔ NoAttempt s := by
  unfold NoAttempt; cases s.bus.control <;> simp [BusControl.inAttempt]

theorem exposed_iff (s : State) : s.bus.exposed = true ↔ Exposed s := by
  unfold BusController.exposed BusController.xclPulled BusController.xdaPulled sentBit BusController.lastReceived Exposed
  generalize s.bus.control = c
  rcases c with _ | _ | _ | ⟨y, i, _ | _ | _⟩ | ⟨y, _ | _ | _, l⟩ | ⟨i, _ | _ | _, b⟩ | ⟨_ | _ | _⟩ |
    ⟨⟨_ | _ | _⟩ | _⟩ | ⟨⟨_ | _ | _⟩ | _ | _, r⟩ | _ <;> simp [BusControl.inAttempt, BusControl.rising]

theorem foreign_hidden (s : State) (h : ¬ NoAttempt s) (h2 : ¬ Exposed s) : s.foreignStart = s ∧ s.foreignStop = s := by
  rw [← inAttempt_eq_false_iff] at h; rw [← exposed_iff] at h2
  have hs : s.bus.control ≠ .start := fun hc => h2 (by
    simp [BusController.exposed, hc, BusControl.inAttempt, BusControl.rising, BusController.xclPulled])
  unfold State.foreignStart State.foreignStop
  rw [if_neg (by simp_all), if_neg h2, if_neg h, if_neg h2]
  exact ⟨rfl, rfl⟩

theorem foreignStop_exposed (s : State) (h : Exposed s) : s.foreignStop = s.sawStop.lose := by
  rw [← exposed_iff] at h
  have h' : s.bus.control.inAttempt = true := by simp [BusController.exposed] at h; exact h.1.1.1
  unfold State.foreignStop; rw [if_neg (by simp_all), if_pos h]

theorem foreignStart_exposed (s : State) (h : Exposed s) (hs : s.bus.control ≠ .start) :
    s.foreignStart = s.sawStart.lose := by
  rw [← exposed_iff] at h
  have h' : s.bus.control.inAttempt = true := by simp [BusController.exposed] at h; exact h.1.1.1
  unfold State.foreignStart; rw [if_neg (by simp_all), if_pos h]

theorem canLose_iff_Losable (s : State) (cause : LossCause) : s.bus.canLose cause = true ↔ Losable s cause := by
  cases cause <;> simp only [BusController.canLose, Losable, BusController.lastReceived, Bool.and_eq_true, decide_eq_true_eq]
  · constructor
    · intro h; split at h
      · rename_i y i hc; exact ⟨y, i, hc, h⟩
      · cases h
    · rintro ⟨y, i, h1, h2⟩; rw [h1]; exact h2
  · constructor
    · intro h; split at h
      · rename_i r hc; exact ⟨r, hc⟩
      · cases h
    · rintro ⟨r, h1⟩; rw [h1]
  · exact exposed_iff s
  · exact exposed_iff s

theorem localError_eq (s : State) (cur : Current) (st : Status) : s.localError cur st = localFailed s cur st := rfl

theorem offerLocal_eq (s : State) (cur : Current) (j : Job) (hl : s.ratio.localInput = none) :
    s.offerLocal cur j = { s with
      ratio := (match s.ratio.divider with
        | none => { s.ratio with divider := some j }
        | some _ => { s.ratio with localInput := some j })
      converter := handedOff s } := by
  simp only [State.offerLocal, if_pos hl, converterHandedOff_eq, State.arrive]
  cases s.ratio.divider <;> rfl

theorem periods_onePeriod (s : State) (h : periods s < 128) : periods (onePeriod s) = periods s + 1 := by
  simp only [periods, onePeriod] at *; rw [BitVec.toNat_add]; simp; omega

theorem Runs_onePeriod (s : State) : Runs (onePeriod s) ↔ Runs s := Iff.rfl

/-! ## The bus -/

theorem halfBit_eq (s : State) : halfBit s = .running s.bus.rate.reload := by
  unfold halfBit; cases s.bus.rate <;> rfl

theorem enterBus_eq (s : State) (c : BusControl) (t : BitTimer) (h : timerIn s.bus.rate c = t) :
    s.enterBus c = inControl s c t := by
  simp [State.enterBus, BusController.enter, inControl, h]

theorem enterBus_timed (s : State) (c : BusControl) (h : timerIn s.bus.rate c = .running s.bus.rate.reload) :
    s.enterBus c = timed s c := by
  rw [enterBus_eq _ _ _ h]; simp [timed, halfBit_eq]

theorem releaseXcl_eq (s : State) (c : BusControl) (h : timerIn s.bus.rate c = .suspended) :
    s.releaseXcl c = released s c := by
  simp only [State.releaseXcl, enterBus_eq _ _ _ h, placeDeadline_eq, released]; rfl

theorem sawStart_eq (s : State) : s.sawStart = busy s := rfl

theorem sawStop_eq (s : State) : s.sawStop = freed s := rfl

theorem lose_of_attempt_lt (s : State) (h : s.bus.attempt.val < 4) : s.lose = backedOff s := by
  simp only [State.lose, Config.maxAttempts, if_pos h, State.placeBusWait, placeDeadline_eq, dropDeadline_eq, backedOff,
    Config.busWaitTicks]
  simp [BusController.enter, without, withDeadline, timerIn, halfBit_eq, State.now]

theorem setRow_eq (s : State) (r : RowNo) (x : Row) : s.setRow r x = withRow s r x := rfl

theorem handOff_eq (s : State) (c : Channel) (o : ConversionOutcome) : s.handOff c o = handed s c o := rfl

theorem remoteError_eq (s : State) (r : RowNo) (st : Status) : s.remoteError r st = failed s r st := rfl

theorem endTransaction_eq (s : State) (o : BusOutcome) : s.endTransaction o = (endedBus s).takeOutcome o := by
  simp only [State.endTransaction, dropDeadline_eq, endedBus, BusController.enter, timerIn]

theorem activeRow_of_Carries (s : State) (r : RowNo) (st : RowState) (h : Carries s r st) : s.activeRow = some r := by
  obtain ⟨h1, h2, h3⟩ := h
  have hu : ∀ q : RowNo, ((s.row q).state = .triggering ∨ (s.row q).state = .reading) ↔ q = r := by
    intro q
    constructor
    · intro h
      apply Classical.byContradiction
      intro hq
      obtain ⟨a, b⟩ := h3 q hq
      rcases h with h | h
      · exact a h
      · exact b h
    · intro h; subst h; rcases h1 with h | h <;> simp only [State.row, h2, h] <;> simp
  apply find_finRange
  · exact decide_eq_true ((hu r).2 rfl)
  · intro j hj; apply decide_eq_false; rw [hu]; intro h; subst h; omega

theorem endedBus_remote (s : State) : (endedBus s).remote = s.remote := by simp [endedBus, without]

theorem Carries_endedBus (s : State) (r : RowNo) (st : RowState) (h : Carries s r st) : Carries (endedBus s) r st := by
  simpa [Carries, endedBus_remote] using h

/-- A transaction that ends with an error outcome ends its row's conversion with the error's status (R135, R138). -/
theorem endTransaction_failed (s : State) (o : BusOutcome) (r : RowNo) (st : RowState) (code : Status)
    (h : Carries s r st)
    (ho : (o = .lost ∧ code = .busLost) ∨ (o = .holdTimeout ∧ code = .busHoldTimeout) ∨ (o = .stuck ∧ code = .busStuck)
      ∨ (o = .addressNack ∧ code = .remoteAbsent) ∨ (o = .dataNack ∧ code = .remoteRefused)) :
    s.endTransaction o = carriedFailed s r code := by
  rw [endTransaction_eq, State.takeOutcome, activeRow_of_Carries _ _ _ (Carries_endedBus _ _ _ h)]
  simp only [carriedFailed]
  have h2 : ((endedBus s).row r).state = st := by simp only [State.row, endedBus_remote]; exact h.2.1
  rw [h2]
  rcases h.1 with h | h <;> subst h <;> rcases ho with ho | ho | ho | ho | ho <;> obtain ⟨ho, hc⟩ := ho <;> subst ho hc <;> rfl

theorem lose_of_attempt_eq (s : State) (r : RowNo) (st : RowState) (h : s.bus.attempt.val = 4) (hc : Carries s r st) :
    s.lose = carriedFailed s r .busLost := by
  unfold State.lose
  rw [if_neg (by unfold Config.maxAttempts; omega)]
  exact endTransaction_failed _ _ _ _ _ hc (.inl ⟨rfl, rfl⟩)

theorem beginStart_high (s : State) : s.beginStart .high = startBegun s := by
  simp only [State.beginStart, dropDeadline_eq, sawStart_eq, startBegun]; exact enterBus_timed _ _ rfl

theorem startBegun_of_waitFree (s : State) : startBegun (s.enterBus .waitFree) = startBegun s := by
  rw [enterBus_eq _ _ _ rfl]
  simp [startBegun, timed, busy, inControl, without, halfBit]

theorem backedOff_of_waitFree (s : State) : backedOff (s.enterBus .waitFree) = backedOff s := by
  rw [enterBus_eq _ _ _ rfl]
  simp [backedOff, withDeadline, inControl, without, halfBit]

theorem carriedFailed_of_waitFree (s : State) (r : RowNo) (st : Status) :
    carriedFailed (s.enterBus .waitFree) r st = carriedFailed s r st := by
  rw [enterBus_eq _ _ _ rfl]
  simp [carriedFailed, failed, endedBus, withRow, handed, inControl, without]

end Sys2Proof.Statement
end

