-- ==== Sys2Proof/Laws/Waiters.lean ====
section
/-! SUPPORT. Waiter sets are sets (R40): a list in rising order of the pairs' keys has no repeats, and joining, uniting and
leaving keep the order and do to the members what their names say (log 16). -/

namespace Sys2Proof.Machine

/-- Two waiters with one key are one waiter. -/
theorem Waiter.key_injective (x y : Waiter) (h : x.key = y.key) : x = y := by
  rcases x with ⟨p, i⟩
  rcases y with ⟨q, j⟩
  have hi := i.isLt
  have hj := j.isLt
  cases p <;> cases q <;> simp only [Waiter.key] at h
  · rw [Fin.ext h]
  · omega
  · omega
  · rw [Fin.ext (Nat.add_left_cancel h)]

theorem mem_addWaiter (v w : Waiter) (l : List Waiter) : v ∈ addWaiter w l ↔ v = w ∨ v ∈ l := by
  induction l with
  | nil => simp [addWaiter]
  | cons x xs ih =>
    simp only [addWaiter]
    split
    · rename_i h; subst h; simp
    · split
      · simp
      · simp only [List.mem_cons, ih]
        constructor
        · rintro (h | h | h) <;> simp [h]
        · rintro (h | h | h) <;> simp [h]

theorem mem_unionWaiters (v : Waiter) (xs ys : List Waiter) : v ∈ unionWaiters xs ys ↔ v ∈ xs ∨ v ∈ ys := by
  induction xs with
  | nil => simp [unionWaiters]
  | cons x xs ih =>
    have : unionWaiters (x :: xs) ys = addWaiter x (unionWaiters xs ys) := rfl
    rw [this, mem_addWaiter, ih, List.mem_cons, or_assoc]

theorem mem_dropWaiters (v : Waiter) (chosen : Waiter → Bool) (xs : List Waiter) :
    v ∈ dropWaiters chosen xs ↔ v ∈ xs ∧ chosen v = false := by
  simp [dropWaiters]

theorem addWaiter_sorted (w : Waiter) (l : List Waiter) (h : l.Pairwise (fun x y => x.key < y.key)) :
    (addWaiter w l).Pairwise (fun x y => x.key < y.key) := by
  induction l with
  | nil => simp [addWaiter]
  | cons x xs ih =>
    rw [List.pairwise_cons] at h
    simp only [addWaiter]
    split
    · exact List.pairwise_cons.2 h
    · rename_i hne
      split
      · rename_i hlt
        refine List.pairwise_cons.2 ⟨?_, List.pairwise_cons.2 h⟩
        intro y hy
        rcases List.mem_cons.1 hy with hy | hy
        · subst hy; exact hlt
        · exact Nat.lt_trans hlt (h.1 y hy)
      · rename_i hle
        refine List.pairwise_cons.2 ⟨?_, ih h.2⟩
        intro y hy
        rcases (mem_addWaiter y w xs).1 hy with hy | hy
        · subst hy
          have : y.key ≠ x.key := fun hk => hne (Waiter.key_injective _ _ hk)
          omega
        · exact h.1 y hy

theorem unionWaiters_sorted (xs ys : List Waiter) (h : ys.Pairwise (fun x y => x.key < y.key)) :
    (unionWaiters xs ys).Pairwise (fun x y => x.key < y.key) := by
  induction xs with
  | nil => exact h
  | cons x xs ih => exact addWaiter_sorted x _ ih

theorem dropWaiters_sorted (chosen : Waiter → Bool) (xs : List Waiter) (h : xs.Pairwise (fun x y => x.key < y.key)) :
    (dropWaiters chosen xs).Pairwise (fun x y => x.key < y.key) := h.filter _

theorem nodup_of_sorted (l : List Waiter) (h : l.Pairwise (fun x y => x.key < y.key)) : l.Nodup :=
  h.imp (fun hxy heq => by subst heq; exact Nat.lt_irrefl _ hxy)

end Sys2Proof.Machine
end

