-- ==== Sys2Proof/Tests/Slice0.lean ====
section
/-! SUPPORT. Tests: the well-formedness checks, one or two small steps of every command, and for every statement with
hypotheses concrete states and operands that meet them, clause by clause and at the ends of the ranges. -/

namespace Sys2Proof.Tests

open Sys2Proof.Machine Sys2Proof.Statement

/-! ## Small states -/

/-- The next state a command answers. -/
def after (i : Instr) (s : State) : State :=
  match exec i s with
  | .next t => t
  | .fault _ => s
  | .refused _ => s

/-- The state right after reset, with the Timebase RUNNING. -/
def live : State := { State.reset with timebase := { State.reset.timebase with startState := .running } }

/-- A state at a tick. -/
def atTick (s : State) (n : Nat) : State := { s with timebase := { s.timebase with tick := BitVec.ofNat 32 n } }

/-- A state with one expiry delivered. -/
def delivering (s : State) (i : DeadlineItem) : State := { s with timebase := { s.timebase with delivered := [i] } }

/-- Both pointers of port A at a window address. -/
def at_ (a : Nat) (s : State) : State :=
  s.setPort .a { s.portA with readPtr := BitVec.ofNat 9 a, writePtr := BitVec.ofNat 9 a }

/-- Port A's staging words for a request, its pointers at 010h. -/
def asking (s : State) (channel paramA paramB : Nat) : State :=
  at_ 0x010 (s.setPort .a { s.portA with staging :=
    { Staging.reset with
      channel := BitVec.ofNat 16 channel, paramA := BitVec.ofNat 16 paramA, paramB := BitVec.ofNat 16 paramB } })

/-- Port A's staging words for a CONFIGURE, its pointers at 010h. -/
def configuring (s : State) (channel settings c1 c2 c3 : Nat) : State :=
  at_ 0x010 (s.setPort .a { s.portA with staging :=
    { Staging.reset with
      channel := BitVec.ofNat 16 channel, settings := BitVec.ofNat 16 settings, config1 := BitVec.ofNat 16 c1
      config2 := BitVec.ofNat 16 c2, config3 := BitVec.ofNat 16 c3 } })

/-- A DATA access of port A that opens, without advance. -/
def cycle : DataCycle := { port := .a, selected := true, advance := false }

/-- The same with advance. -/
def cycleOn : DataCycle := { port := .a, selected := true, advance := true }

/-- A channel turned ON. -/
def enabled (s : State) (c : Channel) : State := s.setChannel c { s.channel c with enable := true }

/-- A channel claimed by a port until tick 50. -/
def claimed (s : State) (c : Channel) (p : Port) : State :=
  s.setChannel c { s.channel c with holder := some p, expiry := 50 }

/-- A channel whose conversion is in flight. -/
def reserved (s : State) (c : Channel) : State := s.setReserved c true

/-- A result entry that the reuse test can accept, completed at tick 0. -/
def measured (s : State) (c : Channel) : State :=
  s.setResult c { valid := true, reserved := false, part := { ResultPart.reset with value := 100, sequence := 4 } }

/-- A WATCH slot in a state, on channel 0. -/
def watching (state : SlotState) (noticed : Bool) : Slot :=
  { Slot.free with state := state, kind := .watch, period := 8, nextDue := 8, noticeQueued := noticed }

/-- A CONVERT slot in a state, on channel 0. -/
def converting (state : SlotState) : Slot := { Slot.free with state := state }

/-- Slot 0 of port A. -/
def slot0 (s : State) (x : Slot) : State := s.setSlot .a 0 x

/-- A response record of slot 0 with version 7. -/
def record7 (final : Bool) : ResponseRecord :=
  { newRecord Slot.free 0 .result final .conversion (some .reset) with version := 7 }

/-- Port A's queue. -/
def queued (s : State) (l : List ResponseRecord) : State := s.setPort .a { s.portA with queue := l }

/-- A pending entry of a channel, waited for by slot 0 of port A. -/
def entry (c : Channel) : PendingEntry := { channel := c, waiters := [{ port := .a, slot := 0 }], restarts := 0 }

/-- The Pending List. -/
def pendingOf (s : State) (l : List Channel) : State := { s with pendingList := l.map entry }

/-- A conversion in flight with an outcome or none yet, waited for by slot 0 of port A. -/
def flying (c : Channel) (o : Option ConversionOutcome) : ConversionRecord :=
  { channel := c, engine := engineOf c, waiters := [{ port := .a, slot := 0 }], startStamp := 0, generation := 0, restarts := 0
    outcome := o }

/-- The In-Flight Set. -/
def inFlightOf (s : State) (l : List ConversionRecord) : State := { s with inFlight := l }

/-- The current conversion of a local channel with its settings of device reset. -/
def current : Current := { channel := 0, sensorInput := 0, presetN := 1024, spanClock := .slow, round := false }

/-- The converter in a state, with its counters and the level of its oscillation. -/
def counting (s : State) (c : ConverterState) (cycles span : Nat) (wave : Level) : State :=
  { s with converter :=
      { state := c, cycleCounter := BitVec.ofNat 16 cycles, spanCounter := BitVec.ofNat 16 span, wave := wave } }

/-- The converter in a state, its counters 0 and its oscillation low. -/
def converterIn (s : State) (c : ConverterState) : State := counting s c 0 0 .low

/-- A state with so many FAST periods gone since the last tick. -/
def inTick (s : State) (n : Nat) : State := { s with timebase := { s.timebase with subTick := BitVec.ofNat 8 n } }

/-- A tick that finds both lines high and counts no edges of its own. -/
def plainTick : Instr := .tick { linesHigh := true, edges := [] }

/-- A job of a channel. -/
def job (c : Channel) (m n : Nat) : Job :=
  { channel := c, m := BitVec.ofNat 16 m, n := BitVec.ofNat 16 n, round := false, origin := engineOf c }

/-- The Ratio Unit with these jobs. -/
def ratioWith (s : State) (divider localJob remoteJob : Option Job) : State :=
  { s with ratio := { s.ratio with divider := divider, localInput := localJob, remoteInput := remoteJob } }

/-- Row 0 in a state, for channel 8. -/
def row0 (s : State) (x : RowState) (polls : Nat) : State :=
  s.setRow 0 { Row.free with state := x, polls := BitVec.ofNat 4 polls }

/-- The transaction of a TRIGGER to address 48h. -/
def triggerOf : Transaction := { target := 0x48, writePart := [0x10, 0x01], readCount := 0 }

/-- The transaction of a READ of address 48h. -/
def readOf : Transaction := { target := 0x48, writePart := [0x20], readCount := 5 }

/-- The controller in a state of an attempt of a transaction. -/
def onBus (s : State) (t : Transaction) (attempt : Fin 5) (c : BusControl) : State :=
  { s with bus := { s.bus with
      control := c, timer := timerIn s.bus.rate c, attempt := attempt, transaction := some t, busState := .busy } }

/-- The bus is FREE. -/
def busFree (s : State) : State := { s with bus := { s.bus with busState := .free } }

/-- The bytes received so far. -/
def having (s : State) (l : List Byte) : State := { s with bus := { s.bus with received := l } }

/-- A quiet window of a port, open until tick 40. -/
def hushed (s : State) (p : Port) : State := s.setPort p { s.port p with quietEnd := some 40 }

/-- The port's control word. -/
def controlled (s : State) (w : Nat) : State := s.setPort .a { s.portA with control := BitVec.ofNat 13 w }

/-- All flags of port A set. -/
def flagsUp (s : State) : State :=
  s.setPort .a { s.portA with flags :=
    { tap := true, claimLapsed := true, earlyStrobe := true, ackStale := true, busFault := true, quietLapsed := true } }

/-- Port A's Read Buffer. -/
def buffering (s : State) (r : RecordName) (l : List Word) : State :=
  s.setPort .a { s.portA with buffer := some { record := r, words := l } }

/-- A port's reset pin low. -/
def portLow (s : State) (p : Port) : State := s.setPort p { s.port p with rstN := .low }

/-- RESET_N low. -/
def deviceLow (s : State) : State := { s with resetN := .low }

/-! ## Well-formedness -/

theorem test_wf_commitBadKind_refuses_kind_1 : (Instr.commitBadKind cycle 1).wf = false := by decide

theorem test_wf_commitBadKind_refuses_kind_7 : (Instr.commitBadKind cycle 7).wf = false := by decide

theorem test_wf_commitBadKind_takes_0_and_8 :
    (Instr.commitBadKind cycle 0).wf = true ∧ (Instr.commitBadKind cycle 8).wf = true := by decide

theorem test_wf_controlWrite_refuses_reset_bit : (Instr.controlWrite .a true 0x8000).wf = false := by decide

theorem test_wf_resetAction_refuses_word_without_reset_bit : (Instr.resetAction .a true 0x7FFF).wf = false := by decide

theorem test_wf_resetAction_takes_reset_bit : (Instr.resetAction .b true 0x8000).wf = true := by decide

theorem test_no_word_spells_a_command : decodeTableWord 16 0x1234 = none := rfl

/-! ## One step of every command -/

theorem test_step_takes_the_front_command :
    (match step { live with pending := [.busLineLow, .localTake] } with
     | .next t => decide (t.pending = [.localTake])
     | .fault _ => false
     | .refused _ => false) = true := by decide

theorem test_convert_places_an_entry :
    let t := after (.convert cycle) (asking (enabled live 2) 2 0 200)
    t.pendingList = [{ channel := 2, waiters := [{ port := .a, slot := 0 }], restarts := 0 }]
      ∧ t.portA.submitCode = .accepted ∧ t.portA.submitSlot = some 0 := by decide

theorem test_convert_reuses_the_table :
    let t := after (.convert cycle) (asking (measured (enabled live 2) 2) 2 0 200)
    t.pendingList = [] ∧ t.portA.queue.map (fun r => (r.final, r.source, r.version)) = [(true, .table, 1)] := by decide

theorem test_watch_places_its_due :
    let t := after (.watch cycle) (asking (enabled (atTick live 100) 2) 2 500 0)
    t.timebase.deadlines = [{ item := .watchDue .a 0, stamp := 600 }] ∧ (t.slot .a 0).state = .waiting := by decide

theorem test_watch_refuses_period_7 :
    (after (.watch cycle) (asking (enabled live 2) 2 7 0)).portA.submitCode = .badParam := by decide

theorem test_cancel_ends_a_waiting_slot :
    let t := after (.cancel cycle) (asking (pendingOf (slot0 live (converting .waiting)) [0]) 0 0 0)
    t.pendingList = [] ∧ (t.slot .a 0).state = .finished
      ∧ t.portA.queue.map (fun r => (r.disposition, r.final)) = [(.cancelled, true)] := by decide

theorem test_claim_holds_until_its_expiry :
    let t := after (.claim cycle) (asking (atTick live 10) 3 4096 0)
    (t.channel 3).holder = some .a ∧ (t.channel 3).expiry = 4106
      ∧ t.timebase.deadlines = [{ item := .claim 3, stamp := 4106 }] := by decide

theorem test_release_ends_the_claim :
    let t := after (.release cycle) (asking (claimed live 3 .a) 3 0 0)
    (t.channel 3).holder = none ∧ (t.channel 3).expiry = 0 ∧ t.portA.flags.claimLapsed = false := by decide

theorem test_configure_local :
    let t := after (.configure cycle) (configuring (claimed live 3 .a) 3 7 16 7 0)
    t.channel 3 = { enable := true, round := true, generation := 1, fields := .localKind 7 16 .fast, holder := some .a
                    expiry := 50 } := by decide

theorem test_configure_remote_address_in_use :
    let s := (enabled live 8).setChannel 8 { live.channel 8 with enable := true, fields := .remoteKind 0x48 20 3 }
    (after (.configure cycle) (configuring (claimed s 9 .a) 9 1 0x48 1 15)).portA.submitCode = .addressInUse := by decide

theorem test_quiet_discards_the_conversion_being_counted :
    let s := reserved (inFlightOf (converterIn live (.sense current)) [flying 0 none]) 0
    let t := after (.quiet cycle) (asking s 0 40 0)
    t.converter.state = .held ∧ t.inFlight = [] ∧ (t.result 0).reserved = false
      ∧ t.pendingList = [{ channel := 0, waiters := [{ port := .a, slot := 0 }], restarts := 1 }] := by decide

theorem test_commitBadKind_reports :
    (after (.commitBadKind cycle 0x0801) (asking live 0 0 0)).portA.submitCode = .badKind := by decide

theorem test_acknowledgement_of_the_head :
    let t := after (.acknowledgement cycle 7) (at_ 0x02F (queued (slot0 live (converting .finished)) [record7 true]))
    t.portA.queue = [] ∧ t.slot .a 0 = Slot.free ∧ t.portA.flags.ackStale = false := by decide

theorem test_acknowledgement_stale :
    let t := after (.acknowledgement cycle 6) (at_ 0x02F (queued live [record7 true]))
    t.portA.queue = [record7 true] ∧ t.portA.flags.ackStale = true := by decide

theorem test_controlWrite_stores_tap_3_as_off :
    (after (.controlWrite .a true 0x67FF) live).portA.control = 0x01FF := by decide

theorem test_controlWrite_stores_tap_12 :
    (after (.controlWrite .a true 0x18FF) live).portA.control = 0x18FF := by decide

theorem test_resetAction_resets_the_port :
    let t := after (.resetAction .a true 0x81FF) (flagsUp (controlled (asking live 1 2 3) 0x1FF))
    t.portA = PortState.reset .high := by decide

theorem test_pointerWrite_linked_and_split :
    let t := after (.pointerWrite .a true 0xFFFF) live
    let u := after (.pointerWrite .a true 0x0123) (controlled live 3)
    (t.portA.readPtr, t.portA.writePtr) = (0x1FF, 0x1FF) ∧ (u.portA.readPtr, u.portA.writePtr) = (0, 0x123) := by decide

theorem test_stagingWrite_stores_and_advances :
    let t := after (.stagingWrite cycleOn 0xABCD) (at_ 0x018 live)
    t.portA.staging.config3 = 0xABCD ∧ t.portA.writePtr = 0x019 ∧ t.portA.readPtr = 0x019 := by decide

theorem test_snapshot_of_the_identity :
    (after (.snapshot .a true .data) (at_ 0x007 live)).portA.dataOut = some 0x6101 := by decide

theorem test_snapshot_of_a_pointer :
    (after (.snapshot .a true .pointer) (at_ 0x140 live)).portA.dataOut = some 0x140 := by decide

theorem test_eventRecordRead_returns_and_clears :
    let t := after (.eventRecordRead cycle) (at_ 0x004 (flagsUp live))
    t.portA.dataOut = some 0x3F ∧ t.portA.flags = EventFlags.clear := by decide

theorem test_earlyStrobe_sets_its_flag :
    let t := after (.earlyStrobe .a true .dataAdvance true) (at_ 0x004 (flagsUp live))
    t.portA.dataOut = some 0xFFFF ∧ t.portA.flags = (flagsUp live).portA.flags ∧ t.portA.readPtr = 0x004
      ∧ t.portA.buffer = some { record := .event, words := [0x3F] } := by decide

theorem test_portReset_frees_claims :
    let t := after (.portReset .a) (claimed (claimed live 3 .a) 4 .b)
    (t.channel 3).holder = none ∧ (t.channel 4).holder = some .b ∧ t.portA.rstN = .low := by decide

theorem test_portResetRelease_raises_the_pin :
    (after (.portResetRelease .a) (portLow live .a)).portA = PortState.reset .high := by decide

theorem test_deviceReset_powers_on_as_reset :
    let t := after (.deviceReset (.powerOn .low)) (flagsUp (pendingOf (enabled live 3) [3]))
    t.channels = State.reset.channels ∧ t.portA = State.reset.portA ∧ t.pendingList = [] ∧ t.bus = State.reset.bus
      ∧ t.timebase = State.reset.timebase := by decide

theorem test_enterRunning_once :
    (after .enterRunning State.reset).timebase.startState = .running
      ∧ (after .enterRunning (deviceLow State.reset)).timebase.startState = .starting := by decide

theorem test_tick_delivers_and_taps :
    let s := inTick (controlled (atTick live 15) 0x800) 128
    let t := after plainTick { s with timebase := { s.timebase with deadlines := [⟨.claim 3, 16⟩, ⟨.claim 4, 17⟩] } }
    t.timebase.tick = 16 ∧ t.timebase.delivered = [.claim 3] ∧ t.timebase.deadlines = [⟨.claim 4, 17⟩]
      ∧ t.portA.flags.tap = true ∧ t.portB.flags.tap = false := by decide

theorem test_tick_idle_check_frees_the_bus :
    (after plainTick (inTick live 128)).bus.busState = .busy
      ∧ (after plainTick (inTick (after plainTick (inTick live 128)) 128)).bus.busState = .free := by decide

theorem test_claimExpiry_lapses :
    let t := after (.claimExpiry 3) (delivering (claimed live 3 .b) (.claim 3))
    (t.channel 3).holder = none ∧ t.portB.flags.claimLapsed = true ∧ t.portA.flags.claimLapsed = false := by decide

theorem test_dueExpiry_of_a_waiting_slot_counts :
    let s := slot0 (atTick live 8) (watching .waiting false)
    let t := after (.dueExpiry .a 0) (delivering s (.watchDue .a 0))
    (t.slot .a 0).missed = 1 ∧ t.timebase.deadlines = [⟨.watchDue .a 0, 16⟩] := by decide

theorem test_quietWindowExpiry_ends_quiet :
    let t := after (.quietWindowExpiry .b) (delivering (converterIn (hushed live .b) .held) (.quietEnd .b))
    t.portB.quietEnd = none ∧ t.portB.flags.quietLapsed = true ∧ t.converter.state = .idle := by decide

theorem test_readExpiry_joins_the_read_order :
    let t := after (.readExpiry 0) (delivering (row0 live .settling 0) (.readDue 0))
    t.remote.readOrder = [0] ∧ (t.row 0).state = .readDue ∧ t.timebase.delivered = [] := by decide

theorem test_holdLimitExpiry_times_out :
    let s := onBus (inFlightOf (row0 live .triggering 0) [flying 8 none]) triggerOf 1 (.ackIn .addressWrite .rising .high)
    let t := after .holdLimitExpiry (delivering s .holdLimit)
    t.bus.control = .idle ∧ t.bus.busState = .busy
      ∧ t.inFlight.map (·.outcome) = [some { value := 0, status := .busHoldTimeout }] := by decide

theorem test_busWaitLimitExpiry_is_stuck :
    let s := onBus (inFlightOf (row0 live .triggering 0) [flying 8 none]) triggerOf 1 .waitFree
    let t := after .busWaitLimitExpiry (delivering s .busWait)
    t.bus.control = .idle ∧ t.inFlight.map (·.outcome) = [some { value := 0, status := .busStuck }] := by decide

theorem test_localTake_loads_the_counter :
    let t := after .localTake (pendingOf (enabled live 0) [8, 0])
    t.converter.cycleCounter = 64512 ∧ t.converter.spanCounter = 0 ∧ t.oscmon = .low
      ∧ t.pendingList.map (·.channel) = [8] ∧ (t.result 0).reserved = true := by decide

theorem test_referencePhaseEnd_at_15_and_16 :
    (after (.referencePhaseEnd []) (counting live (.ref current) 0xFFFF 16 .high)).converter.state = .sense current
      ∧ (after (.referencePhaseEnd []) (counting live (.ref current) 0xFFFF 15 .high)).converter.state = .idle := by decide

theorem test_referencePhaseEnd_counts_its_edges :
    let t := after (.referencePhaseEnd [.halfCycle, .fastPeriod, .halfCycle, .halfCycle])
      (counting (inTick live 3) (.ref current) 0xFFFE 15 .low)
    t.converter = { state := .sense current, cycleCounter := 0, spanCounter := 16, wave := .low } := by decide

theorem test_spanOverflow_ends_the_conversion :
    let s := inFlightOf (counting (inTick live 3) (.ref current) 0 0xFFFF .low) [flying 0 none]
    (after .spanOverflow s).inFlight.map (·.outcome) = [some { value := 0, status := .spanOverflow }] := by decide

theorem test_sensingPhaseEnd_starts_the_division :
    let t := after (.sensingPhaseEnd [.halfCycle]) (counting (inTick live 127) (.sense current) 1199 1 .high)
    t.ratio.divider = some (job 0 1200 1024) ∧ t.converter.state = .idle ∧ t.oscmon = .low := by decide

theorem test_cycleCounterOverflow_is_over_range :
    let s := inFlightOf (counting live (.sense current) 0xFFFF 9 .high) [flying 0 none]
    (after .cycleCounterOverflow s).inFlight.map (·.outcome) = [some { value := 0, status := .overRange }] := by decide

theorem test_oscmon_follows_the_half_cycles :
    let s := counting live (.sense current) 7 9 .low
    s.oscmon = .low ∧ s.halfCycle.oscmon = .high ∧ s.halfCycle.halfCycle.oscmon = .low
      ∧ s.halfCycle.converter.cycleCounter = 7 ∧ s.halfCycle.halfCycle.converter.cycleCounter = 8 := by decide

theorem test_tick_counts_32_slow_and_128_fast_periods :
    let s := fun clock => counting live (.ref { current with spanClock := clock }) 64512 5 .low
    (after plainTick (s .slow)).converter.spanCounter = 37 ∧ (after plainTick (s .fast)).converter.spanCounter = 133
      ∧ (after plainTick (s .slow)).timebase.crystalCycles = live.timebase.crystalCycles + 32 := by decide +kernel

theorem test_divisionEnd_hands_over_the_ratio :
    (after .divisionEnd (ratioWith (inFlightOf live [flying 0 none]) (some (job 0 1200 1024)) none none)).inFlight.map
      (·.outcome) = [some { value := 19200, status := .ok }] := by decide

theorem test_divisionEnd_gives_the_first_choice_to_the_local_input :
    let t := after .divisionEnd (ratioWith live (some (job 0 1 1)) (some (job 1 1 1)) (some (job 8 1 1)))
    t.ratio.divider = some (job 1 1 1) ∧ t.ratio.marker = .localEngine := by decide

theorem test_completion_delivers :
    let s := reserved (slot0 (atTick live 9) (converting .waiting)) 0
    let t := after (.completion 0) (inFlightOf s [flying 0 (some { value := 5, status := .ok })])
    (t.result 0).part.value = 5 ∧ (t.result 0).part.endStamp = 9 ∧ (t.result 0).reserved = false
      ∧ (t.slot .a 0).state = .finished ∧ t.portA.queue.length = 1 := by decide

theorem test_completion_of_a_bus_status_sets_both_flags :
    let t := after (.completion 8) (inFlightOf live [flying 8 (some { value := 0, status := .busLost })])
    t.portA.flags.busFault = true ∧ t.portB.flags.busFault = true := by decide

theorem test_trigger_waits_on_a_busy_bus :
    let t := after (.trigger .high) (pendingOf (enabled live 8) [0, 8])
    t.bus.control = .waitFree ∧ t.timebase.deadlines = [⟨.busWait, 65⟩] ∧ (t.row 0).state = .triggering := by decide

theorem test_read_begins_on_a_free_bus :
    let s := row0 (busFree live) .readDue 0
    let t := after (.read .high) { s with remote := { s.remote with readOrder := [0] } }
    t.bus.control = .start ∧ t.bus.busState = .busy ∧ (t.row 0).state = .reading ∧ t.remote.readOrder = [] := by decide

theorem test_attemptStart_pulls_xda_low :
    let t := after (.attemptStart .high) (busFree (onBus live triggerOf 1 .waitFree))
    t.bus.control = .start ∧ t.bus.xdaPulled = true ∧ t.bus.timer = .running 42 := by decide

theorem test_stop_settles_the_row :
    let s := onBus (row0 (atTick live 100) .triggering 0) triggerOf 1 (.stop .released .done)
    let t := after .stop s
    t.bus.control = .idle ∧ t.bus.busState = .free ∧ (t.row 0).readDue = 116
      ∧ t.timebase.deadlines = [⟨.readDue 0, 116⟩] := by decide

theorem test_stop_of_a_read_with_counts :
    let s := having (onBus (row0 live .reading 0) readOf 1 (.stop .released .done)) [0x00, 0x75, 0x30, 0x61, 0xA8]
    let t := after .stop s
    t.ratio.divider = some (job 8 30000 25000) ∧ (t.row 0).state = .free := by decide

theorem test_lossOfArbitration_backs_off :
    let t := after (.lossOfArbitration .sendXdaLow) (onBus live triggerOf 1 (.sendByte .addressWrite 0 .high))
    t.bus.control = .backoff false ∧ t.bus.attempt = 2 ∧ t.timebase.deadlines = [⟨.busWait, 65⟩] := by decide

theorem test_backoffEnd_waits :
    (after (.backoffEnd .high) (onBus live triggerOf 2 (.backoff true))).bus.control = .waitFree := by decide

theorem test_startCondition_makes_the_bus_busy :
    (after .startCondition (busFree live)).bus.busState = .busy := by decide

theorem test_foreign_conditions_need_xcl_high :
    (after .stopCondition (onBus live readOf 1 (.recvByte 3 .low 0))).bus.control = .recvByte 3 .low 0
      ∧ (after .stopCondition (onBus live readOf 1 (.recvByte 3 .high 0))).bus.control = .backoff false := by decide

theorem test_stopCondition_makes_the_bus_free :
    (after .stopCondition live).bus.busState = .free ∧ (after .stopCondition live).bus.idleCheck = false := by decide

theorem test_resetNRelease_samples_xrate :
    (after (.resetNRelease .high) (deviceLow live)).bus.rate = .fast
      ∧ (after (.resetNRelease .high) (deviceLow live)).resetN = .high := by decide

theorem test_halfBitPeriodEnd_releases_xcl :
    let t := after .halfBitPeriodEnd (onBus live triggerOf 1 (.sendByte .addressWrite 0 .low))
    t.bus.control = .sendByte .addressWrite 0 .rising ∧ t.bus.timer = .suspended
      ∧ t.timebase.deadlines = [⟨.holdLimit, 9⟩] := by decide

theorem test_xclSampledHigh_takes_the_bit :
    let t := after (.xclSampledHigh .high) (onBus live readOf 1 (.recvByte 3 .rising 0x05))
    t.bus.control = .recvByte 3 .high 0x0B := by decide

theorem test_xclPulledLow_ends_the_high_half :
    (after .xclPulledLowByAnotherDevice (onBus live triggerOf 1 (.sendByte .addressWrite 7 .high))).bus.control
      = .ackIn .addressWrite .low .high := by decide

theorem test_busLineLow_restarts_the_idle_check :
    (after .busLineLow (after plainTick (inTick live 128))).bus.linesHigh = false := by decide

/-! ## States that meet the statements' hypotheses -/

/-- Port A's cycle is a commit cycle in every state built by `asking` on a state whose reset pins are high and whose
Timebase is RUNNING. -/
theorem asking_ready (s : State) (channel a b : Nat) (h : s.resetN = .high) (hp : s.portA.rstN = .high)
    (hr : s.timebase.startState = .running) : CommitReady (asking s channel a b) cycle := ⟨rfl, ⟨h, hp⟩, rfl, hr⟩

/-- The same for `configuring`. -/
theorem configuring_ready (s : State) (channel settings c1 c2 c3 : Nat) (h : s.resetN = .high)
    (hp : s.portA.rstN = .high) (hr : s.timebase.startState = .running) :
    CommitReady (configuring s channel settings c1 c2 c3) cycle := ⟨rfl, ⟨h, hp⟩, rfl, hr⟩

/-- Port A is open in every state whose two reset pins are high. -/
theorem open_a (s : State) (h : s.resetN = .high) (hp : s.portA.rstN = .high) : Open s .a := ⟨h, hp⟩

theorem witness_StepRunsTheFrontCommand : State.reset.pending = [] := rfl

/-! The clauses of EventsWithoutTheirConditionsDoNotOccur, one by one. -/

theorem witness_EventsWithoutTheirConditionsDoNotOccur_nothing_delivered :
    .claim 0 ∉ live.timebase.delivered ∧ .claim 15 ∉ live.timebase.delivered ∧ .watchDue .b 11 ∉ live.timebase.delivered
      ∧ .quietEnd .a ∉ live.timebase.delivered ∧ .readDue 3 ∉ live.timebase.delivered
      ∧ .holdLimit ∉ live.timebase.delivered ∧ .busWait ∉ live.timebase.delivered := by decide

theorem witness_EventsWithoutTheirConditionsDoNotOccur_local_take :
    (converterIn live (.ref current)).converter.state ≠ .idle ∧ ¬ NoWindow (hushed live .b)
      ∧ 2 ≤ (inFlightOf live [flying 0 none, flying 7 none]).inFlightOf .localEngine
      ∧ (∀ e ∈ (pendingOf (reserved live 7) [8, 7]).pendingList,
          8 ≤ e.channel.val ∨ (pendingOf (reserved live 7) [8, 7]).results[e.channel].reserved = true) := by
  unfold NoWindow; decide

theorem witness_EventsWithoutTheirConditionsDoNotOccur_completion :
    ∀ r ∈ (inFlightOf live [flying 15 none]).inFlight, r.channel = 15 → r.outcome = none := by decide

theorem witness_EventsWithoutTheirConditionsDoNotOccur_read_and_trigger :
    (onBus live triggerOf 1 .waitFree).bus.control ≠ .idle ∧ live.remote.readOrder = []
      ∧ ({ live with remote := { live.remote with readOrder := [0] } } : State).remote.readOrder ≠ []
      ∧ 4 ≤ (inFlightOf live [flying 8 none, flying 9 none, flying 10 none, flying 15 none]).inFlightOf .remoteEngine
      ∧ (∀ r : RowNo, ({ live with remote := { live.remote with
          rows := Vector.replicate 4 { Row.free with state := .settling } } } : State).remote.rows[r].state ≠ .free)
      ∧ (∀ e ∈ (pendingOf (reserved live 8) [7, 8]).pendingList,
          e.channel.val < 8 ∨ (pendingOf (reserved live 8) [7, 8]).results[e.channel].reserved = true) := by decide

theorem witness_EventsWithoutTheirConditionsDoNotOccur_tick : ¬ Runs State.reset ∧ ¬ Runs (deviceLow live) := by
  unfold Runs; decide

theorem witness_EventsWithoutTheirConditionsDoNotOccur_phases :
    (∀ cur, live.converter.state ≠ .ref cur) ∧ (∀ cur, live.converter.state ≠ .sense cur)
      ∧ (counting live (.ref current) 0xFFFE 16 .high).converter.cycleCounter ≠ 0xFFFF
      ∧ (counting live (.sense current) 0xFFFF 16 .low).converter.wave = .low
      ∧ (¬ SpanPeriodNext (counting (inTick live 4) (.ref current) 0 0xFFFF .low) current.spanClock)
      ∧ (¬ SpanPeriodNext (counting (inTick live 128) (.sense current) 0 1 .low) current.spanClock)
      ∧ (counting live (.ref current) 0 0xFFFE .low).converter.spanCounter ≠ 0xFFFF
      ∧ (counting live (.sense current) 0 2 .low).converter.spanCounter ≠ 1 := by
  refine ⟨fun cur h => (by cases h), fun cur h => (by cases h), ?_⟩
  unfold SpanPeriodNext Runs; decide

theorem witness_EventsWithoutTheirConditionsDoNotOccur_work_and_bus :
    live.ratio.divider = none
      ∧ (∀ place result, (onBus live triggerOf 1 (.stop (.clocked .rising) .done)).bus.control = .stop place result →
          place = .clocked .low ∨ place = .clocked .rising)
      ∧ ¬ Losable live .startXclLow ∧ ¬ Losable live .restartXclLow ∧ ¬ Losable live .foreignStop
      ∧ (∀ second, (onBus live triggerOf 1 .waitFree).bus.control ≠ .backoff second) := by
  refine ⟨rfl, fun place result h => ?_, ?_, ?_, ?_, fun second h => (by cases h)⟩
  · have h' : BusControl.stop (.clocked .rising) .done = .stop place result := h
    injection h' with h1; exact .inr h1.symm
  all_goals unfold Losable
  · decide
  · decide
  · unfold Exposed; decide

theorem witness_DeviceResetRestoresEveryBlock :
    (flagsUp live).pending = [] ∧ (flagsUp live).resetN = .high ∧ (flagsUp live).portA.rstN = .high
      ∧ (flagsUp live).portB.rstN = .high := ⟨rfl, rfl, rfl, rfl⟩

theorem witness_ReleasesAndStartUp :
    (deviceLow live).resetN = .low ∧ live.resetN = .high
      ∧ (State.reset.timebase.startState = .starting ∧ State.reset.resetN = .high) ∧ live.timebase.startState = .running :=
  ⟨rfl, rfl, ⟨rfl, rfl⟩, rfl⟩

theorem witness_PortResetActsOnOnePort : Open live .a ∧ Open live .b := ⟨⟨rfl, rfl⟩, ⟨rfl, rfl⟩⟩

theorem witness_ACycleThatDoesNotOpenIsNothing :
    ((false = false ∨ ¬ Open live .a) ∧ (true = false ∨ ¬ Open (portLow live .a) .a) ∧ (true = false ∨ ¬ Open (deviceLow live) .b))
      ∧ Instr.pointerWrite .a true 0 ∈ [Instr.controlWrite .a true 0, .pointerWrite .a true 0] := by
  unfold Open; decide

theorem witness_PointersFollowTheirMode :
    Open (controlled live 0) .a ∧ (controlled live 0).portA.control.getLsbD 0 = false
      ∧ Open (controlled live 3) .a ∧ ¬ (controlled live 3).portA.control.getLsbD 0 = false
      ∧ (controlled live 3).portA.control.getLsbD 1 = true
      ∧ Open (controlled live 1) .a ∧ ¬ (controlled live 1).portA.control.getLsbD 0 = false
      ∧ ¬ (controlled live 1).portA.control.getLsbD 1 = true
      ∧ (0x7FFF : Word).getLsbD 15 = false := by
  unfold Open; decide

theorem witness_ControlWordIsStoredAndRead :
    Open live .a ∧ (0x7FFF : Word).getLsbD 15 = false ∧ (0 : Word).getLsbD 15 = false
      ∧ (0x8000 : Word).getLsbD 15 = true := by
  unfold Open; decide

theorem witness_DataWriteReachesTheWindow :
    cycle.selected = true
      ∧ (Open (at_ 0x010 live) .a ∧ (at_ 0x010 live).portA.writePtr.toNat = 0x010)
      ∧ (Open (at_ 0x011 live) .a ∧ (at_ 0x011 live).portA.writePtr.toNat = 0x011)
      ∧ (Open (at_ 0x018 live) .a ∧ (at_ 0x018 live).portA.writePtr.toNat = 0x018)
      ∧ (Open (at_ 0x02F live) .a ∧ (at_ 0x02F live).portA.writePtr.toNat = 0x02F)
      ∧ (Open (at_ 0x00F live) .a ∧ (at_ 0x00F live).portA.writePtr.toNat < 0x010)
      ∧ (Open (at_ 0x019 live) .a ∧ 0x018 < (at_ 0x019 live).portA.writePtr.toNat
          ∧ (at_ 0x019 live).portA.writePtr.toNat ≠ 0x02F)
      ∧ (Open (at_ 0x1FF live) .a ∧ 0x018 < (at_ 0x1FF live).portA.writePtr.toNat
          ∧ (at_ 0x1FF live).portA.writePtr.toNat ≠ 0x02F) := by
  unfold Open; decide

theorem witness_DataWriteReachesTheWindow_staging_words :
    (at_ 0x012 live).portA.writePtr.toNat = 0x012 ∧ (at_ 0x013 live).portA.writePtr.toNat = 0x013
      ∧ (at_ 0x014 live).portA.writePtr.toNat = 0x014 ∧ (at_ 0x015 live).portA.writePtr.toNat = 0x015
      ∧ (at_ 0x016 live).portA.writePtr.toNat = 0x016 ∧ (at_ 0x017 live).portA.writePtr.toNat = 0x017 := by decide

theorem witness_DataReadGoesThroughTheReadBuffer :
    (Open (at_ 0x005 live) .a ∧ windowTarget (at_ 0x005 live).portA.readPtr = .record .tick 0)
      ∧ (windowTarget (at_ 0x006 live).portA.readPtr = .record .tick 1 ∧ (at_ 0x006 live).portA.buffer = none)
      ∧ (let s := buffering (at_ 0x1C7 live) (.slot 10) [1, 2, 3, 4, 5, 6]
         windowTarget s.portA.readPtr = .record (.slot 11) 5
          ∧ ∃ b, s.portA.buffer = some b ∧ b.record ≠ .slot 11)
      ∧ (let s := buffering (at_ 0x02E live) .responseHead [1, 2]
         windowTarget s.portA.readPtr = .record .responseHead 14 ∧ 14 ≠ 0
          ∧ ∃ b, s.portA.buffer = some b ∧ b.record = .responseHead)
      ∧ windowTarget (at_ 0x010 live).portA.readPtr = .staging 0 ∧ windowTarget (at_ 0x018 live).portA.readPtr = .staging 8
      ∧ windowTarget (at_ 0x02F live).portA.readPtr = .ackWord ∧ windowTarget (at_ 0x1C8 live).portA.readPtr = .unused
      ∧ windowTarget (at_ 0x008 live).portA.readPtr = .unused := by
  refine ⟨⟨⟨rfl, rfl⟩, by decide⟩, by decide, ⟨by decide, _, rfl, by decide⟩, ⟨by decide, by decide, _, rfl, rfl⟩, ?_⟩
  decide

theorem test_the_window_map_at_the_ends_of_its_records :
    windowTarget 0x000 = .record .portStatus 0 ∧ windowTarget 0x003 = .record .portStatus 3
      ∧ windowTarget 0x0BF = .record (.result 15) 7 ∧ windowTarget 0x0C0 = .record (.channel 0) 0
      ∧ windowTarget 0x13F = .record (.channel 15) 7 ∧ windowTarget 0x14F = .record .pendingOrder 15
      ∧ windowTarget 0x180 = .record (.slot 0) 0 ∧ windowTarget 0x1C7 = .record (.slot 11) 5 := by decide

theorem witness_EventRecordReadClearsWhatItReturns :
    cycle.selected = true ∧ Open (at_ 0x004 (flagsUp live)) .a ∧ (at_ 0x004 (flagsUp live)).portA.readPtr = 0x004 := by
  unfold Open; decide

theorem witness_EarlyStrobeDiscardsTheCycle :
    Open (at_ 0x001 live) .a ∧ (Access.control = .control ∨ Access.control = .pointer)
      ∧ (Access.data = .data ∨ Access.data = .dataAdvance)
      ∧ windowTarget (at_ 0x000 live).portA.readPtr = .record .portStatus 0
      ∧ (windowTarget (at_ 0x001 live).portA.readPtr = .record .portStatus 1 ∧ (at_ 0x001 live).portA.buffer = none)
      ∧ (let s := buffering (at_ 0x003 live) .portStatus [1, 2, 3, 4]
         ∀ (name : RecordName) (k : Nat), windowTarget s.portA.readPtr = .record name k →
           k ≠ 0 ∧ ∃ b, s.portA.buffer = some b ∧ b.record = name) := by
  refine ⟨⟨rfl, rfl⟩, .inl rfl, .inl rfl, by decide, by decide, ?_⟩
  intro s name k h
  have h' : WindowTarget.record .portStatus 3 = .record name k := h
  injection h' with h1 h2
  subst h1 h2
  exact ⟨by decide, _, rfl, rfl⟩

theorem witness_FlagsAndReadBufferAreKept :
    (∃ t, exec (.pointerWrite .a true 5) (flagsUp live) = .next t)
      ∧ (∀ f : Flag, f ∈ [Flag.tap, .quietLapsed] → (flagsUp live).portA.flags.get f = true)
      ∧ (∃ t, exec (.snapshot .a true .data) (at_ 0x005 (flagsUp live)) = .next t)
      ∧ (at_ 0x005 (flagsUp live)).portA.readPtr ≠ 0x004 ∧ Port.b ≠ .a ∧ (0x7FFF : Word).getLsbD 15 = false := by
  refine ⟨⟨_, rfl⟩, by decide, ⟨_, rfl⟩, ?_⟩
  decide

theorem witness_OutputPinsFollowTheState :
    live.oscillator = .none ∧ (counting live (.sense current) 0 9 .high).oscillator ≠ .none
      ∧ (counting live (.sense current) 0 9 .high).oscmon = .high := by decide

theorem witness_PortsAreIndependent :
    (∃ t, exec (.quiet cycle) (asking live 0 1 0) = .next t) ∧ cycle.port = .a ∧ (5 : Word) ≠ 6
      ∧ (∃ t, exec (.acknowledgement cycle 6) (at_ 0x02F live) = .next t) ∧ (at_ 0x02F live).portA.writePtr ≠ 0x010
      ∧ (∃ t, exec (.configure cycle) (configuring live 0 1 16 0 0) = .next t)
      ∧ (configuring live 0 1 16 0 0).portA.staging.settings.getLsbD 0 = true :=
  ⟨⟨_, rfl⟩, rfl, by decide, ⟨_, rfl⟩, by decide, ⟨_, rfl⟩, by decide⟩

theorem witness_RecordWordsHoldTheirFields :
    (record7 true).part = some .reset ∧ (newRecord Slot.free 0 .cancelled true .none none).part = none
      ∧ (queued live (List.replicate 12 (record7 true))).portA.queue.length ≤ 12
      ∧ (pendingOf live (List.finRange 16)).pendingList.length ≤ 16 := by decide

/-! ### Commits -/

theorem witness_CommitChecksStartThenKind :
    cycle.selected = true
      ∧ (Open (at_ 0x010 State.reset) .a ∧ (at_ 0x010 State.reset).portA.writePtr = 0x010
          ∧ (at_ 0x010 State.reset).timebase.startState = .starting)
      ∧ (Open (at_ 0x010 live) .a ∧ (at_ 0x010 live).timebase.startState = .running
          ∧ (0 : Word).toNat = 0 ∧ 7 < (8 : Word).toNat) := by
  unfold Open; decide

theorem witness_NoneIsTheCodeOfNoCommit :
    cycle.port = .a ∧ cycle.selected = true ∧ Open (at_ 0x010 live) .a ∧ (at_ 0x010 live).portA.writePtr = 0x010
      ∧ (at_ 0x010 live).portA.submitCount = 0 := by
  unfold Open; decide

theorem witness_ClaimIsDecidedInOrder :
    (CommitReady (asking live 16 1 0) cycle ∧ 16 ≤ (asking live 16 1 0).portA.staging.channel.toNat)
      ∧ (CommitReady (asking live 15 0 0) cycle ∧ (asking live 15 0 0).portA.staging.channel.toNat = (15 : Channel).val
          ∧ (asking live 15 0 0).portA.staging.paramA.toNat < 1)
      ∧ (CommitReady (asking live 0 4097 0) cycle ∧ (asking live 0 4097 0).portA.staging.channel.toNat = (0 : Channel).val
          ∧ 4096 < (asking live 0 4097 0).portA.staging.paramA.toNat)
      ∧ (let s := asking (claimed live 15 .b) 15 1 0
         CommitReady s cycle ∧ 1 ≤ s.portA.staging.paramA.toNat ∧ s.channels[(15 : Channel)].holder = some (peer .a))
      ∧ (let s := asking (claimed live 15 .a) 15 4096 0
         CommitReady s cycle ∧ s.portA.staging.paramA.toNat ≤ 4096 ∧ s.channels[(15 : Channel)].holder = some .a)
      ∧ (asking live 0 1 0).channels[(0 : Channel)].holder = none :=
  ⟨⟨asking_ready _ _ _ _ rfl rfl rfl, by decide⟩, ⟨asking_ready _ _ _ _ rfl rfl rfl, by decide⟩,
    ⟨asking_ready _ _ _ _ rfl rfl rfl, by decide⟩, ⟨asking_ready _ _ _ _ rfl rfl rfl, by decide⟩,
    ⟨asking_ready _ _ _ _ rfl rfl rfl, by decide⟩, by decide⟩

/-- Both ports stand before a commit for channel 15 with a duration of 1 and of 4096. -/
def bothAsking (s : State) : State :=
  let t := asking s 15 1 0
  t.setPort .b { t.portB with writePtr := 0x010, staging := { Staging.reset with channel := 15, paramA := 4096 } }

theorem witness_TheFirstOfTwoClaimsWins :
    let good := fun (s : State) (q : Port) =>
      (s.port q).staging.channel.toNat = (15 : Channel).val
      ∧ 1 ≤ (s.port q).staging.paramA.toNat ∧ (s.port q).staging.paramA.toNat ≤ 4096
    let c : DataCycle := { port := .a, selected := true, advance := false }
    let c' : DataCycle := { port := .b, selected := true, advance := false }
    (CommitReady (bothAsking live) c ∧ CommitReady (bothAsking live) c' ∧ good (bothAsking live) .a ∧ good (bothAsking live) .b
      ∧ (bothAsking live).channels[(15 : Channel)].holder = none)
    ∧ (CommitReady (bothAsking (claimed live 15 .a)) c ∧ CommitReady (bothAsking (claimed live 15 .a)) c'
      ∧ good (bothAsking (claimed live 15 .a)) .a ∧ good (bothAsking (claimed live 15 .a)) .b
      ∧ (bothAsking (claimed live 15 .a)).channels[(15 : Channel)].holder = some .a) := by
  unfold CommitReady Open; decide

theorem witness_ReleaseIsDecidedInOrder :
    (CommitReady (asking live 16 0 0) cycle ∧ 16 ≤ (asking live 16 0 0).portA.staging.channel.toNat)
      ∧ (let s := asking (claimed live 15 .b) 15 0 0
         CommitReady s cycle ∧ s.portA.staging.channel.toNat = (15 : Channel).val
          ∧ s.channels[(15 : Channel)].holder ≠ some .a)
      ∧ (let s := asking (claimed live 15 .a) 15 0 0
         CommitReady s cycle ∧ s.portA.staging.channel.toNat = (15 : Channel).val
          ∧ s.channels[(15 : Channel)].holder = some .a) :=
  ⟨⟨asking_ready _ _ _ _ rfl rfl rfl, by decide⟩, ⟨asking_ready _ _ _ _ rfl rfl rfl, by decide⟩,
    ⟨asking_ready _ _ _ _ rfl rfl rfl, by decide⟩⟩

theorem witness_ClaimExpiryEndsTheClaim :
    let s := fun a => asking (delivering (claimed live 15 .a) (.claim 15)) 15 a 0
    (.claim 15 ∈ (s 1).timebase.delivered ∧ (s 1).channels[(15 : Channel)].holder = some .a
      ∧ CommitReady (s 1) cycle ∧ (s 1).portA.staging.channel.toNat = (15 : Channel).val
      ∧ 1 ≤ (s 1).portA.staging.paramA.toNat)
    ∧ (.claim 15 ∈ (s 4096).timebase.delivered ∧ CommitReady (s 4096) cycle
      ∧ (s 4096).portA.staging.paramA.toNat ≤ 4096) :=
  ⟨⟨by decide, by decide, asking_ready _ _ _ _ rfl rfl rfl, by decide, by decide⟩,
    ⟨by decide, asking_ready _ _ _ _ rfl rfl rfl, by decide⟩⟩

theorem witness_ConfigureOnIsDecidedInOrder_refusals :
    (let s := configuring live 16 1 16 7 0
     CommitReady s cycle ∧ s.portA.staging.settings.getLsbD 0 = true ∧ 16 ≤ s.portA.staging.channel.toNat)
      ∧ (let s := configuring (claimed live 15 .b) 15 1 0x08 1 15
         CommitReady s cycle ∧ s.portA.staging.channel.toNat = (15 : Channel).val
          ∧ s.channels[(15 : Channel)].holder ≠ some .a)
      ∧ (let s := configuring (reserved (claimed live 15 .a) 15) 15 1 0x08 1 15
         CommitReady s cycle ∧ s.channels[(15 : Channel)].holder = some .a ∧ s.results[(15 : Channel)].reserved = true) :=
  ⟨⟨configuring_ready _ _ _ _ _ _ rfl rfl rfl, by decide⟩, ⟨configuring_ready _ _ _ _ _ _ rfl rfl rfl, by decide⟩,
    ⟨configuring_ready _ _ _ _ _ _ rfl rfl rfl, by decide⟩⟩

theorem witness_ConfigureOnIsDecidedInOrder_local :
    (let s := configuring (claimed live 7 .a) 7 1 15 0 0
     CommitReady s cycle ∧ s.channels[(7 : Channel)].holder = some .a ∧ s.results[(7 : Channel)].reserved = false
      ∧ (7 : Channel).val < 8 ∧ s.portA.staging.config1.toNat < 16)
      ∧ (let s := configuring (claimed live 7 .a) 7 1 16 8 0
         CommitReady s cycle ∧ 7 < s.portA.staging.config2.toNat)
      ∧ (let s := configuring (claimed live 7 .a) 7 1 16 7 0
         CommitReady s cycle ∧ 16 ≤ s.portA.staging.config1.toNat ∧ s.portA.staging.config2.toNat = (7 : Fin 8).val) :=
  ⟨⟨configuring_ready _ _ _ _ _ _ rfl rfl rfl, by decide⟩, ⟨configuring_ready _ _ _ _ _ _ rfl rfl rfl, by decide⟩,
    ⟨configuring_ready _ _ _ _ _ _ rfl rfl rfl, by decide⟩⟩

/-- The ranges of a remote record. -/
def LegalRemote (st : Staging) : Prop :=
  0x08 ≤ st.config1.toNat ∧ st.config1.toNat ≤ 0x77 ∧ 1 ≤ st.config2.toNat ∧ st.config2.toNat ≤ 255 ∧ st.config3.toNat ≤ 15

/-- Channel 9 is ON with bus address 77h. -/
def addressTaken : State := live.setChannel 9 { live.channel 9 with enable := true, fields := .remoteKind 0x77 1 0 }

theorem witness_ConfigureOnIsDecidedInOrder_remote :
    (¬ LegalRemote (configuring (claimed live 8 .a) 8 1 0x07 1 0).portA.staging
      ∧ ¬ LegalRemote (configuring (claimed live 8 .a) 8 1 0x78 1 0).portA.staging
      ∧ ¬ LegalRemote (configuring (claimed live 8 .a) 8 1 0x08 0 0).portA.staging
      ∧ ¬ LegalRemote (configuring (claimed live 8 .a) 8 1 0x08 256 0).portA.staging
      ∧ ¬ LegalRemote (configuring (claimed live 8 .a) 8 1 0x08 1 16).portA.staging)
      ∧ (let s := configuring (claimed addressTaken 8 .a) 8 1 0x77 255 15
         CommitReady s cycle ∧ s.channels[(8 : Channel)].holder = some .a ∧ s.results[(8 : Channel)].reserved = false
          ∧ 8 ≤ (8 : Channel).val ∧ LegalRemote s.portA.staging
          ∧ ∃ d : Channel, d ≠ 8 ∧ s.channels[d].enable = true
            ∧ s.channels[d].fields.address = some (s.portA.staging.config1.setWidth 7))
      ∧ (let s := configuring (claimed addressTaken 8 .a) 8 1 0x08 1 0
         CommitReady s cycle ∧ LegalRemote s.portA.staging
          ∧ ¬ ∃ d : Channel, d ≠ 8 ∧ s.channels[d].enable = true
            ∧ s.channels[d].fields.address = some (s.portA.staging.config1.setWidth 7)) := by
  refine ⟨by unfold LegalRemote; decide, ⟨configuring_ready _ _ _ _ _ _ rfl rfl rfl, ?_⟩,
    configuring_ready _ _ _ _ _ _ rfl rfl rfl, ?_⟩ <;> unfold LegalRemote <;> decide

theorem witness_ConfigureOffWithdrawsTheChannel :
    (let s := configuring live 16 0 0 0 0
     CommitReady s cycle ∧ s.portA.staging.settings.getLsbD 0 = false ∧ 16 ≤ s.portA.staging.channel.toNat)
      ∧ (let s := configuring live 15 0 0 0 0
         CommitReady s cycle ∧ s.portA.staging.channel.toNat = (15 : Channel).val
          ∧ s.channels[(15 : Channel)].holder ≠ some .a)
      ∧ (let s := configuring (reserved (claimed live 0 .a) 0) 0 0 0 0 0
         CommitReady s cycle ∧ s.channels[(0 : Channel)].holder = some .a ∧ s.results[(0 : Channel)].reserved = true)
      ∧ (let s := configuring (claimed (pendingOf (slot0 live (watching .waiting true)) [0]) 0 .a) 0 0 0 0 0
         CommitReady s cycle ∧ s.channels[(0 : Channel)].holder = some .a ∧ s.results[(0 : Channel)].reserved = false) :=
  ⟨⟨configuring_ready _ _ _ _ _ _ rfl rfl rfl, by decide⟩, ⟨configuring_ready _ _ _ _ _ _ rfl rfl rfl, by decide⟩,
    ⟨configuring_ready _ _ _ _ _ _ rfl rfl rfl, by decide⟩, ⟨configuring_ready _ _ _ _ _ _ rfl rfl rfl, by decide⟩⟩

/-- Every slot of port A is in use but those of a list. -/
def allButFree (s : State) (l : List SlotNo) : State :=
  s.setPort .a { s.portA with slots := Vector.ofFn fun i => if i ∈ l then Slot.free else converting .finished }

theorem witness_ConvertIsDecidedInOrder :
    (CommitReady (asking live 16 0 0) cycle ∧ 16 ≤ (asking live 16 0 0).portA.staging.channel.toNat)
      ∧ (CommitReady (asking live 15 0 0) cycle ∧ (asking live 15 0 0).channels[(15 : Channel)].enable = false)
      ∧ (let s := asking (allButFree (enabled live 15) []) 15 0 0
         CommitReady s cycle ∧ s.channels[(15 : Channel)].enable = true ∧ NoFree s.portA)
      ∧ (let s := asking (allButFree (measured (enabled live 15) 15) [11]) 15 0 1
         CommitReady s cycle ∧ s.portA.staging.channel.toNat = (15 : Channel).val ∧ LowestFree s.portA 11
          ∧ Reusable s 15 s.portA.staging.paramB)
      ∧ (let s := asking (atTick (measured (enabled live 15) 15) 2) 15 0 1
         CommitReady s cycle ∧ LowestFree s.portA 0 ∧ ¬ Reusable s 15 s.portA.staging.paramB) := by
  refine ⟨⟨asking_ready _ _ _ _ rfl rfl rfl, by decide⟩, ⟨asking_ready _ _ _ _ rfl rfl rfl, by decide⟩,
    ⟨asking_ready _ _ _ _ rfl rfl rfl, ?_⟩, ⟨asking_ready _ _ _ _ rfl rfl rfl, ?_⟩,
    ⟨asking_ready _ _ _ _ rfl rfl rfl, ?_⟩⟩ <;>
    (try unfold NoFree) <;> (try unfold LowestFree) <;> (try unfold Reusable) <;> decide

theorem witness_WatchIsDecidedInOrder :
    (CommitReady (asking live 16 8 0) cycle ∧ 16 ≤ (asking live 16 8 0).portA.staging.channel.toNat)
      ∧ (CommitReady (asking live 15 8 0) cycle ∧ (asking live 15 8 0).channels[(15 : Channel)].enable = false)
      ∧ (let s := asking (enabled live 15) 15 7 0
         CommitReady s cycle ∧ s.channels[(15 : Channel)].enable = true ∧ s.portA.staging.paramA.toNat < 8)
      ∧ (let s := asking (allButFree (enabled live 15) []) 15 8 0
         CommitReady s cycle ∧ 8 ≤ s.portA.staging.paramA.toNat ∧ NoFree s.portA)
      ∧ (let s := asking (allButFree (measured (enabled live 15) 15) [11]) 15 65535 1
         CommitReady s cycle ∧ LowestFree s.portA 11 ∧ Reusable s 15 s.portA.staging.paramB)
      ∧ (let s := asking (measured (enabled live 15) 15) 15 8 0
         CommitReady s cycle ∧ LowestFree s.portA 0 ∧ ¬ Reusable s 15 s.portA.staging.paramB) := by
  refine ⟨⟨asking_ready _ _ _ _ rfl rfl rfl, by decide⟩, ⟨asking_ready _ _ _ _ rfl rfl rfl, by decide⟩,
    ⟨asking_ready _ _ _ _ rfl rfl rfl, ?_⟩, ⟨asking_ready _ _ _ _ rfl rfl rfl, ?_⟩,
    ⟨asking_ready _ _ _ _ rfl rfl rfl, ?_⟩, ⟨asking_ready _ _ _ _ rfl rfl rfl, ?_⟩⟩ <;>
    (try unfold NoFree) <;> (try unfold LowestFree) <;> (try unfold Reusable) <;> decide

theorem witness_CancelEndsTheRequest :
    (CommitReady (asking live 0 12 0) cycle ∧ 12 ≤ (asking live 0 12 0).portA.staging.paramA.toNat)
      ∧ (CommitReady (asking live 0 11 0) cycle ∧ (asking live 0 11 0).portA.staging.paramA.toNat = (11 : SlotNo).val
          ∧ (asking live 0 11 0).portA.slots[(11 : SlotNo)].state = .free)
      ∧ (asking (slot0 live (converting .finished)) 0 0 0).portA.slots[(0 : SlotNo)].state = .finished
      ∧ (let s := asking (pendingOf (slot0 live (converting .waiting)) [0]) 0 0 0
         CommitReady s cycle ∧ s.portA.slots[(0 : SlotNo)].state = .waiting
          ∧ s.portA.slots[(0 : SlotNo)].noticeQueued = false)
      ∧ (let s := asking (slot0 live (watching .dormant true)) 0 0 0
         CommitReady s cycle ∧ s.portA.slots[(0 : SlotNo)].state = .dormant
          ∧ s.portA.slots[(0 : SlotNo)].noticeQueued = true) :=
  ⟨⟨asking_ready _ _ _ _ rfl rfl rfl, by decide⟩, ⟨asking_ready _ _ _ _ rfl rfl rfl, by decide⟩, by decide,
    ⟨asking_ready _ _ _ _ rfl rfl rfl, by decide⟩, ⟨asking_ready _ _ _ _ rfl rfl rfl, by decide⟩⟩

theorem witness_QuietIsDecidedAndActs_refused_and_removed :
    (CommitReady (asking live 0 1025 0) cycle ∧ 1024 < (asking live 0 1025 0).portA.staging.paramA.toNat)
      ∧ (CommitReady (asking live 0 0 0) cycle ∧ (asking live 0 0 0).portA.staging.paramA.toNat = 0
          ∧ (asking live 0 0 0).portA.quietEnd = none)
      ∧ (let s := asking (hushed (hushed live .a) .b) 0 0 0
         CommitReady s cycle ∧ s.portA.quietEnd ≠ none ∧ (s.port (peer .a)).quietEnd ≠ none)
      ∧ (let s := asking (hushed live .a) 0 0 0
         CommitReady s cycle ∧ s.portA.quietEnd ≠ none ∧ (s.port (peer .a)).quietEnd = none) :=
  ⟨⟨asking_ready _ _ _ _ rfl rfl rfl, by decide⟩, ⟨asking_ready _ _ _ _ rfl rfl rfl, by decide⟩,
    ⟨asking_ready _ _ _ _ rfl rfl rfl, by decide⟩, ⟨asking_ready _ _ _ _ rfl rfl rfl, by decide⟩⟩

theorem witness_QuietIsDecidedAndActs_opened :
    (let s := asking (hushed live .b) 0 1024 0
     CommitReady s cycle ∧ s.portA.staging.paramA.toNat ≤ 1024 ∧ ¬ NoWindow s)
      ∧ (let s := asking live 0 1 0
         CommitReady s cycle ∧ 1 ≤ s.portA.staging.paramA.toNat ∧ NoWindow s ∧ s.converter.state = .idle)
      ∧ (let s := asking (converterIn live (.ratioWait current (job 0 1 1))) 0 1 0
         CommitReady s cycle ∧ NoWindow s ∧ s.converter.state = .ratioWait current (job 0 1 1))
      ∧ (let s := asking (inFlightOf (converterIn live (.sense current)) [flying 8 none, flying 0 none]) 0 1024 0
         CommitReady s cycle ∧ NoWindow s ∧ s.converter.state = .sense current
          ∧ s.inFlight = [flying 8 none] ++ flying 0 none :: [] ∧ (flying 0 none).channel = current.channel
          ∧ ∀ q ∈ [flying 8 none], q.channel ≠ current.channel)
      ∧ (converterIn live (.ref current)).converter.state = .ref current := by
  refine ⟨⟨asking_ready _ _ _ _ rfl rfl rfl, ?_⟩, ⟨asking_ready _ _ _ _ rfl rfl rfl, ?_⟩,
    ⟨asking_ready _ _ _ _ rfl rfl rfl, ?_⟩, ⟨asking_ready _ _ _ _ rfl rfl rfl, ?_⟩, rfl⟩ <;> unfold NoWindow <;> decide

theorem witness_QuietWindowExpiryLapses :
    (let s := delivering (hushed (hushed live .a) .b) (.quietEnd .a)
     .quietEnd .a ∈ s.timebase.delivered ∧ s.portA.quietEnd ≠ none ∧ (s.port (peer .a)).quietEnd ≠ none)
      ∧ (let s := delivering (hushed live .b) (.quietEnd .b)
         .quietEnd .b ∈ s.timebase.delivered ∧ s.portB.quietEnd ≠ none ∧ (s.port (peer .b)).quietEnd = none) := by decide

theorem witness_DueExpiryKeepsThePhase :
    (let s := delivering (slot0 live { watching .waiting false with missed := 255 }) (.watchDue .a 0)
     .watchDue .a 0 ∈ s.timebase.delivered ∧ s.portA.slots[(0 : SlotNo)].state = .waiting)
      ∧ (let s := delivering (slot0 live (watching .dormant false)) (.watchDue .a 0)
         .watchDue .a 0 ∈ s.timebase.delivered ∧ s.portA.slots[(0 : SlotNo)].state = .dormant
          ∧ s.portA.slots[(0 : SlotNo)].kind = .watch ∧ ¬ Reusable s 0 0)
      ∧ (let s := measured (delivering (slot0 live { watching .dormant false with maxAge := 1 }) (.watchDue .a 0)) 0
         s.portA.slots[(0 : SlotNo)].noticeQueued = false ∧ Reusable s 0 s.portA.slots[(0 : SlotNo)].maxAge)
      ∧ (let s := measured (delivering (slot0 live { watching .dormant true with maxAge := 65535 }) (.watchDue .a 0)) 0
         s.portA.slots[(0 : SlotNo)].noticeQueued = true ∧ Reusable s 0 s.portA.slots[(0 : SlotNo)].maxAge) := by
  unfold Reusable; decide

theorem witness_AcknowledgementRemovesTheHead :
    cycle.selected = true
      ∧ (Open (at_ 0x02F live) .a ∧ (at_ 0x02F live).portA.writePtr = 0x02F ∧ (at_ 0x02F live).portA.queue = [])
      ∧ (at_ 0x02F (queued live [record7 true])).portA.queue = record7 true :: []
      ∧ (record7 true).version ≠ 6
      ∧ ((record7 true).version = 7 ∧ (record7 true).final = true)
      ∧ ((record7 false).version = 7 ∧ (record7 false).final = false) := by
  unfold Open; decide

theorem witness_DeliveryAppendsOrUpdates :
    (slot0 live (converting .waiting)).portA.slots[(0 : SlotNo)].kind = .convert
      ∧ (let y := (slot0 live (watching .waiting false)).portA.slots[(0 : SlotNo)]
         y.kind = .watch ∧ y.noticeQueued = false)
      ∧ (let y := (slot0 live (watching .waiting true)).portA.slots[(0 : SlotNo)]
         y.kind = .watch ∧ y.noticeQueued = true) := by decide

/-! ### Conversions -/

theorem witness_LocalTakeBeginsTheReferencePhase :
    let s := reserved (pendingOf (enabled (inFlightOf live [flying 1 none]) 7) [8, 1, 7, 0]) 1
    s.converter.state = .idle ∧ NoWindow s ∧ s.inFlightOf .localEngine < 2
      ∧ s.pendingList = [entry 8, entry 1] ++ entry 7 :: [entry 0] ∧ (entry 7).channel.val < 8
      ∧ s.results[(entry 7).channel].reserved = false
      ∧ (∀ d ∈ [entry 8, entry 1], 8 ≤ d.channel.val ∨ s.results[d.channel].reserved = true)
      ∧ (∀ d ∈ [entry 8, entry 1], d.channel ≠ (entry 7).channel)
      ∧ s.channels[(entry 7).channel].fields = .localKind 7 1024 .slow := by
  unfold NoWindow; decide

theorem witness_ReferencePhaseCountsAndEnds :
    let fast : Current := { current with spanClock := .fast }
    ((counting live (.ref current) 64512 0 .low).converter.state = .ref current
        ∧ (counting live (.ref current) 64512 0 .low).converter.wave = .low)
      ∧ (let x := (counting live (.ref current) 0xFFFE 0 .high).converter
         x.wave = .high ∧ x.cycleCounter ≠ 0xFFFF)
      ∧ (let x := (counting live (.ref current) 0xFFFF 16 .high).converter
         x.wave = .high ∧ x.cycleCounter = 0xFFFF ∧ 16 ≤ x.spanCounter.toNat)
      ∧ (counting live (.ref current) 0xFFFF 15 .high).converter.spanCounter.toNat < 16
      ∧ (let s := counting (inTick live 3) (.ref current) 0 0xFFFE .low
         SpanPeriodNext s current.spanClock ∧ s.converter.spanCounter ≠ 0xFFFF)
      ∧ (let s := counting (inTick live 127) (.ref fast) 0 0xFFFF .low
         SpanPeriodNext s fast.spanClock ∧ s.converter.spanCounter = 0xFFFF)
      ∧ (let s := counting live (.ref current) 65520 0 .low
         s.converter.wave = .low ∧ s.converter.cycleCounter.toNat + 15 ≤ 65535)
      ∧ (let s := counting (inTick live 1) (.ref current) 0 65503 .low
         Runs s ∧ periods s + 127 ≤ 128 ∧ s.converter.spanCounter.toNat + spanPeriodsIn s current.spanClock 127 ≤ 65535)
      ∧ (let s := counting live (.ref fast) 0 65407 .low
         Runs s ∧ periods s + 128 ≤ 128 ∧ s.converter.spanCounter.toNat + spanPeriodsIn s fast.spanClock 128 ≤ 65535) := by
  unfold SpanPeriodNext Runs; decide

theorem witness_SensingPhaseCountsAndEnds :
    let fast : Current := { current with spanClock := .fast }
    ((counting live (.sense current) 0 9 .low).converter.state = .sense current
        ∧ (counting live (.sense current) 0 9 .low).converter.wave = .low)
      ∧ (let x := (counting live (.sense current) 0xFFFE 9 .high).converter
         x.wave = .high ∧ x.cycleCounter ≠ 0xFFFF)
      ∧ (let x := (counting live (.sense current) 0xFFFF 9 .high).converter
         x.wave = .high ∧ x.cycleCounter = 0xFFFF)
      ∧ (let s := counting (inTick live 127) (.sense current) 0 2 .low
         SpanPeriodNext s current.spanClock ∧ s.converter.spanCounter ≠ 1)
      ∧ (let s := counting live (.sense fast) 0 1 .low
         SpanPeriodNext s fast.spanClock ∧ s.converter.spanCounter = 1 ∧ s.converter.cycleCounter = 0)
      ∧ 1 ≤ (counting live (.sense fast) 1 1 .low).converter.cycleCounter.toNat
      ∧ (live.ratio.localInput = none ∧ live.ratio.divider = none)
      ∧ (let s := ratioWith (counting live (.sense fast) 1 1 .low) (some (job 8 1 1)) none none
         s.ratio.localInput = none ∧ s.ratio.divider ≠ none)
      ∧ (ratioWith (counting live (.sense fast) 1 1 .low) (some (job 8 1 1)) (some (job 1 1 1)) none).ratio.localInput ≠ none
      ∧ (let s := counting live (.sense current) 65520 9 .low
         s.converter.wave = .low ∧ s.converter.cycleCounter.toNat + 15 ≤ 65535)
      ∧ (let s := counting live (.sense current) 0 33 .low
         Runs s ∧ periods s + 128 ≤ 128 ∧ spanPeriodsIn s current.spanClock 128 < s.converter.spanCounter.toNat) := by
  unfold SpanPeriodNext Runs; decide

theorem witness_DivisionEndHandsOverAndTakesTheNext :
    let s := fun l r => ratioWith live (some (job 0 1 1)) l r
    let named := fun e (s : State) => { s with ratio := { s.ratio with marker := e } }
    ((s none none).ratio.divider = some (job 0 1 1) ∧ (s none none).ratio.localInput = none
        ∧ (s none none).ratio.remoteInput = none)
      ∧ (s (some (job 1 1 1)) none).ratio.localInput = some (job 1 1 1)
      ∧ (s none (some (job 8 1 1))).ratio.remoteInput = some (job 8 1 1)
      ∧ (named .remoteEngine (s (some (job 1 1 1)) (some (job 8 1 1)))).ratio.marker = .remoteEngine
      ∧ (named .localEngine (s (some (job 1 1 1)) (some (job 8 1 1)))).ratio.marker = .localEngine := by decide

theorem witness_DivisionGivesTheRatioOfTheCounts :
    (job 8 5 0).n.toNat = 0
      ∧ ((job 8 4 1).n.toNat ≠ 0 ∧ 4 * (job 8 4 1).n.toNat ≤ (job 8 4 1).m.toNat)
      ∧ ((job 8 3 1).n.toNat ≠ 0 ∧ (job 8 3 1).m.toNat < 4 * (job 8 3 1).n.toNat)
      ∧ (job 8 65535 65535).m.toNat < 4 * (job 8 65535 65535).n.toNat
      ∧ (job 8 1 1).round = false ∧ ({ job 8 1 1 with round := true } : Job).round = true := by decide

theorem witness_CompletionWritesAndDelivers :
    let done : ConversionOutcome := { value := 5, status := .ok }
    let s := inFlightOf (slot0 live (converting .waiting)) [flying 1 none, flying 0 (some done), flying 8 none]
    s.inFlight = [flying 1 none] ++ flying 0 (some done) :: [flying 8 none] ∧ (flying 0 (some done)).channel = 0
      ∧ (∀ q ∈ [flying 1 none], q.channel ≠ 0) ∧ (flying 0 (some done)).outcome = some done
      ∧ (done.status ≠ .busLost ∧ done.status ≠ .busHoldTimeout ∧ done.status ≠ .busStuck)
      ∧ (flying 15 (some { value := 0, status := .busStuck })).outcome = some { value := 0, status := .busStuck } := by decide

/-! ### The remote engine -/

/-- A state with remote work to take: rows 0 and 1 in use, channel 9 reserved, channel 15 next. -/
def remoteWork : State :=
  (row0 (pendingOf (enabled (reserved live 9) 15) [0, 9, 15, 8]) .settling 0).setRow 1 { Row.free with state := .settling }

theorem witness_TriggerTakesAnEntryIntoARow :
    let s := remoteWork
    (s.bus.control = .idle ∧ s.remote.readOrder = [] ∧ s.inFlightOf .remoteEngine < 4
      ∧ s.pendingList = [entry 0, entry 9] ++ entry 15 :: [entry 8] ∧ 8 ≤ (entry 15).channel.val
      ∧ s.results[(entry 15).channel].reserved = false
      ∧ (∀ d ∈ [entry 0, entry 9], d.channel.val < 8 ∨ s.results[d.channel].reserved = true)
      ∧ (∀ d ∈ [entry 0, entry 9], d.channel ≠ (entry 15).channel)
      ∧ s.remote.rows[(2 : RowNo)].state = .free ∧ (∀ q : RowNo, q < 2 → s.remote.rows[q].state ≠ .free)
      ∧ s.channels[(entry 15).channel].fields = .remoteKind 0 16 3)
      ∧ s.bus.busState = .busy ∧ (busFree s).bus.busState = .free := by decide

theorem witness_ReadServesTheHeadOfTheReadOrder :
    let s := { row0 live .readDue 0 with remote := { (row0 live .readDue 0).remote with readOrder := [0, 3] } }
    (s.bus.control = .idle ∧ s.remote.readOrder = 0 :: [3]) ∧ s.bus.busState = .busy ∧ (busFree s).bus.busState = .free := by
  decide

theorem witness_StopEndsTheTransaction_trigger :
    StopStep.clocked .high ∈ [StopStep.clocked .high, .released, .overdue]
      ∧ StopStep.overdue ∈ [StopStep.clocked .high, .released, .overdue]
      ∧ (let s := onBus (row0 live .triggering 0) triggerOf 1 (.stop .released .done)
         s.bus.control = .stop .released .done ∧ Carries s 0 .triggering) := by
  unfold Carries; decide

theorem witness_StopEndsTheTransaction_read :
    let s := fun (polls : Nat) (b0 : Byte) =>
      having (onBus (row0 live .reading polls) readOf 4 (.stop .released .done)) [b0, 0x75, 0x30, 0x61, 0xA8]
    Carries (s 0 0) 0 .reading ∧ (s 0 0).bus.control = .stop .released .done
      ∧ (s 0 0).bus.received = [0x00, 0x75, 0x30, 0x61, 0xA8]
      ∧ ((s 0 0).ratio.remoteInput = none ∧ (s 0 0).ratio.divider = none)
      ∧ (let t := ratioWith (s 0 0) (some (job 0 1 1)) none none
         t.ratio.remoteInput = none ∧ t.ratio.divider ≠ none ∧ Carries t 0 .reading)
      ∧ (let t := ratioWith (s 0 0) (some (job 0 1 1)) none (some (job 9 1 1))
         t.ratio.remoteInput ≠ none ∧ Carries t 0 .reading)
      ∧ ((s 2 1).remote.rows[(0 : RowNo)].polls.toNat < (s 2 1).remote.rows[(0 : RowNo)].pollLimit.toNat)
      ∧ ((s 3 1).remote.rows[(0 : RowNo)].pollLimit.toNat ≤ (s 3 1).remote.rows[(0 : RowNo)].polls.toNat)
      ∧ ((0x02 : Byte) ≠ 0x00 ∧ (0x02 : Byte) ≠ 0x01) ∧ Carries (s 0 2) 0 .reading := by
  unfold Carries; decide

theorem witness_StopEndsTheTransaction_refused :
    (let t := onBus (row0 live .reading 0) readOf 1 (.stop (.clocked .high) .addressNack)
     t.bus.control = .stop (.clocked .high) .addressNack ∧ Carries t 0 .reading)
      ∧ (let t := onBus (row0 live .reading 0) readOf 1 (.stop .overdue .dataNack)
         t.bus.control = .stop .overdue .dataNack ∧ Carries t 0 .reading) := by
  unfold Carries; decide

/-! ### The expansion bus -/

theorem witness_ForeignConditionsSetTheBusState :
    NoAttempt live ∧ (onBus live triggerOf 1 .start).bus.control = .start
      ∧ (let s := onBus live triggerOf 3 (.sendByte .addressWrite 0 .high)
         s.bus.attempt.val < 4 ∧ Exposed s ∧ s.bus.control ≠ .start)
      ∧ (let s := onBus (row0 live .reading 0) readOf 4 (.recvByte 7 .high 0)
         s.bus.attempt.val = 4 ∧ Carries s 0 .reading ∧ Exposed s ∧ s.bus.control ≠ .start)
      ∧ (let s := onBus live triggerOf 1 (.sendByte .addressWrite 7 .high)
         ¬ NoAttempt s ∧ ¬ Exposed s)
      ∧ ¬ Exposed (onBus live readOf 1 (.recvByte 7 .rising 0)) := by
  unfold Carries NoAttempt Exposed; decide

theorem witness_LossEndsTheAttempt :
    (let s := busFree (onBus (row0 live .triggering 0) triggerOf 1 .waitFree)
     s.bus.control = .waitFree ∧ s.bus.busState = .free ∧ s.bus.attempt.val < 4)
      ∧ (let s := onBus live triggerOf 3 (.sendByte .addressWrite 0 .high)
         s.bus.control = .sendByte .addressWrite 0 .high ∧ sentBit s.bus.carried .addressWrite 0 = true)
      ∧ (let s := having (onBus (row0 live .reading 0) readOf 4 (.ackOut .high)) [1, 2, 3, 4, 5]
         s.bus.control = .ackOut .high ∧ s.bus.lastReceived = true ∧ s.bus.attempt.val = 4 ∧ Carries s 0 .reading)
      ∧ (onBus live readOf 1 (.restart (.clocked .rising))).bus.control = .restart (.clocked .rising)
      ∧ (onBus live readOf 1 (.restart (.clocked .high))).bus.control = .restart (.clocked .high)
      ∧ (onBus live readOf 1 (.stop .overdue .dataNack)).bus.control = .stop .overdue .dataNack
      ∧ Exposed (onBus live readOf 1 (.recvByte 7 .high 0)) := by
  unfold Carries Exposed; decide

theorem witness_AttemptsStartOnAFreeBus :
    (let s := busFree (onBus (row0 live .triggering 0) triggerOf 4 .waitFree)
     s.bus.control = .waitFree ∧ s.bus.busState = .free ∧ s.bus.attempt.val = 4 ∧ Carries s 0 .triggering)
      ∧ (busFree (onBus live triggerOf 3 .waitFree)).bus.attempt.val < 4
      ∧ live.bus.control ≠ .waitFree ∧ (onBus live triggerOf 1 .waitFree).bus.busState = .busy
      ∧ (let s := onBus (row0 live .triggering 0) triggerOf 2 (.backoff true)
         s.bus.control = .backoff true ∧ s.bus.busState = .busy ∧ (busFree s).bus.busState = .free
          ∧ (busFree s).bus.attempt.val < 4)
      ∧ (let s := busFree (onBus (row0 live .reading 0) readOf 4 (.backoff false))
         s.bus.control = .backoff false ∧ s.bus.attempt.val = 4 ∧ Carries s 0 .reading) := by
  unfold Carries; decide

theorem witness_XclSampledHighTakesTheBit :
    (let s := onBus live triggerOf 1 (.sendByte .addressWrite 7 .rising)
     s.bus.control = .sendByte .addressWrite 7 .rising ∧ sentBit s.bus.carried .addressWrite 7 = false)
      ∧ (let s := onBus (row0 live .triggering 0) triggerOf 4 (.sendByte .addressWrite 0 .rising)
         s.bus.control = .sendByte .addressWrite 0 .rising ∧ sentBit s.bus.carried .addressWrite 0 = true
          ∧ s.bus.attempt.val = 4 ∧ Carries s 0 .triggering)
      ∧ (onBus live triggerOf 3 (.sendByte .addressWrite 0 .rising)).bus.attempt.val < 4
      ∧ (onBus live triggerOf 1 (.ackIn (.writeByte 1) .rising .low)).bus.control = .ackIn (.writeByte 1) .rising .low
      ∧ (onBus live readOf 1 (.recvByte 7 .rising 0)).bus.control = .recvByte 7 .rising 0
      ∧ (let s := having (onBus live readOf 1 (.ackOut .rising)) [1, 2, 3, 4]
         s.bus.control = .ackOut .rising ∧ s.bus.received.length < s.bus.carried.readCount)
      ∧ (let s := having (onBus live readOf 1 (.ackOut .rising)) [1, 2, 3, 4, 5]
         s.bus.control = .ackOut .rising ∧ s.bus.carried.readCount ≤ s.bus.received.length)
      ∧ (onBus live readOf 1 (.restart (.clocked .rising))).bus.control = .restart (.clocked .rising)
      ∧ (onBus live readOf 1 (.stop (.clocked .rising) .done)).bus.control = .stop (.clocked .rising) .done
      ∧ live.bus.control.rising = false := by
  unfold Carries; decide

/-- The controller states whose high half another device may end (the first clause of AnotherClockEndsTheHighHalf). -/
theorem witness_AnotherClockEndsTheHighHalf :
    (match (onBus live triggerOf 1 .start).bus.control with
      | .start | .sendByte _ _ .high | .ackIn _ .high _ | .recvByte _ .high _ | .ackOut .high | .stop (.clocked .high) _
      | .restart .pulled => True
      | _ => False)
      ∧ (match (onBus live triggerOf 1 (.stop (.clocked .high) .done)).bus.control with
        | .start | .sendByte _ _ .high | .ackIn _ .high _ | .recvByte _ .high _ | .ackOut .high | .stop (.clocked .high) _
        | .restart .pulled => True
        | _ => False)
      ∧ (let s := onBus live readOf 3 (.restart (.clocked .high))
         s.bus.control = .restart (.clocked .high) ∧ s.bus.attempt.val < 4)
      ∧ (let s := onBus (row0 live .reading 0) readOf 4 (.restart (.clocked .high))
         s.bus.control = .restart (.clocked .high) ∧ s.bus.attempt.val = 4 ∧ Carries s 0 .reading)
      ∧ (match live.bus.control with
        | .idle | .waitFree | .backoff _ | .sendByte _ _ .low | .sendByte _ _ .rising | .ackIn _ .low _
        | .ackIn _ .rising _ | .recvByte _ .low _ | .recvByte _ .rising _ | .ackOut .low | .ackOut .rising
        | .restart (.clocked .low) | .restart (.clocked .rising) | .stop (.clocked .low) _
        | .stop (.clocked .rising) _ | .stop .released _ | .stop .overdue _ => True
        | _ => False) :=
  ⟨trivial, trivial, by decide, by unfold Carries; decide, trivial⟩

theorem witness_EightBitsMakeAByte :
    (onBus live readOf 1 (.recvByte 0 .low 0)).bus.control = .recvByte 0 .low 0
      ∧ (onBus live triggerOf 1 (.sendByte (.writeByte 1) 0 .low)).bus.control = .sendByte (.writeByte 1) 0 .low
      ∧ (onBus live triggerOf 1 (.sendByte (.writeByte 1) 0 .low)).bus.transaction = some triggerOf
      ∧ 1 < (onBus live triggerOf 1 (.sendByte (.writeByte 1) 0 .low)).bus.carried.writePart.length := by
  decide

theorem witness_RemoteExpiriesAct :
    (let s := delivering (row0 live .settling 0) (.readDue 0)
     .readDue 0 ∈ s.timebase.delivered ∧ s.remote.rows[(0 : RowNo)].state = .settling)
      ∧ (let s := delivering (onBus (row0 live .reading 0) readOf 1 (.stop (.clocked .rising) .done)) .holdLimit
         Carries s 0 .reading ∧ .holdLimit ∈ s.timebase.delivered ∧ s.bus.control.rising = true)
      ∧ (let s := delivering (onBus (row0 live .triggering 0) triggerOf 4 .waitFree) .busWait
         Carries s 0 .triggering ∧ .busWait ∈ s.timebase.delivered ∧ s.bus.control = .waitFree
          ∧ s.bus.busState = .busy) := by
  unfold Carries; decide

theorem witness_TickCountsDeliversAndTaps :
    (let s := controlled (atTick live 4095) 0x1800
     Runs s ∧ s.timebase.delivered = [] ∧ periods s ≤ 128)
      ∧ (let s := inTick (delivering (claimed live 3 .a) (.claim 3)) 128
         Runs s ∧ s.timebase.delivered = [.claim 3] ∧ periods s ≤ 128) := by
  unfold Runs; decide

/-! ### What every step keeps -/

/-- A working state: a WATCH of port A waits on channel 0, a CONVERT of port A has a conversion in flight on channel 8 whose
row settles, channel 3 is claimed, and a tick is the next command. -/
def working : State :=
  let s := enabled ((live.setChannel 8 { live.channel 8 with enable := true, fields := .remoteKind 0x48 20 3 })) 0
  let s1 := (s.setSlot .a 0 (watching .waiting false)).setSlot .a 1 { converting .waiting with channel := 8 }
  let s2 := claimed (s1.setReserved 8 true) 3 .b
  { s2 with
    pending := [plainTick]
    pendingList := [entry 0]
    inFlight := [{ flying 8 none with waiters := [{ port := .a, slot := 1 }] }]
    remote := { s2.remote with rows := s2.remote.rows.set 0 { Row.free with state := .settling, readDue := 1 } }
    timebase := { s2.timebase with
      deadlines := [⟨.watchDue .a 0, 8⟩, ⟨.claim 3, 50⟩, ⟨.readDue 0, 1⟩] } }

theorem working_steps : ∃ t, step working = .next t := ⟨_, rfl⟩

theorem witness_StepKeepsReservations : working.ReservationsAgree := by
  unfold State.ReservationsAgree; decide

theorem witness_StepKeepsChannelsLegal : working.ChannelsLegal := by
  unfold State.ChannelsLegal
  refine ⟨?_, by decide, by decide⟩
  have h : ∀ c : Channel, (match (working.channel c).fields with
      | .localKind _ n _ => decide (isLocal c = true ∧ 16 ≤ n.toNat)
      | .remoteKind address settle _ => decide (isLocal c = false ∧ 1 ≤ settle.toNat ∧
          ((working.channel c).enable = true → 0x08 ≤ address.toNat ∧ address.toNat ≤ 0x77))) = true := by decide
  intro c
  have hc := h c
  unfold ChannelRecord.Legal
  split <;> rename_i hf <;> rw [hf] at hc <;> exact of_decide_eq_true hc

theorem witness_StepKeepsConverterObeyingQuiet :
    working.ConverterObeysQuiet ∧ (converterIn (hushed working .a) .held).ConverterObeysQuiet := by
  unfold State.ConverterObeysQuiet; decide

theorem witness_StepKeepsConverterObeyingQuiet_counting :
    (counting (inTick live 128) (.sense current) 5 1 .high).ConverterObeysQuiet := by
  unfold State.ConverterObeysQuiet; decide

theorem witness_StepKeepsDeadlinesUnique : working.DeadlinesUnique := by
  unfold State.DeadlinesUnique; decide

theorem witness_StepKeepsDeadlinesUnique_held : working.HeldDeadlinesAgree := by
  unfold State.HeldDeadlinesAgree State.HasDeadline
  refine ⟨by decide, fun p => ?_⟩
  cases p <;> decide

theorem witness_StepKeepsNothingBeforeRunning :
    working.NothingBeforeRunning
      ∧ ({ State.reset with pending := [.enterRunning] } : State).NothingBeforeRunning
      ∧ ∃ t, step { State.reset with pending := [.enterRunning] } = .next t :=
  ⟨⟨fun h => (by cases h), fun h => (by cases h)⟩,
    ⟨fun _ => rfl, fun _ => ⟨rfl, rfl, rfl, rfl, rfl, rfl, rfl, rfl, rfl, rfl, rfl, rfl,
      ⟨rfl, rfl, rfl, rfl, rfl, rfl, rfl, rfl⟩, ⟨rfl, rfl, rfl, rfl, rfl, rfl, rfl, rfl⟩⟩⟩, ⟨_, rfl⟩⟩

/-- The working state with a TRIGGER of row 1 in its first clock hold, a read due and a job waiting. -/
def workingBus : State :=
  let s := onBus working triggerOf 1 (.ackIn .addressWrite .rising .high)
  let rows := ((s.remote.rows.set 1 { Row.free with state := .triggering }).set 2 { Row.free with state := .readDue }).set 3
    { Row.free with state := .ratioWait }
  { s with
    timebase := { s.timebase with deadlines := ⟨.holdLimit, 9⟩ :: s.timebase.deadlines }
    remote := { rows := rows, readOrder := [2], waitOrder := [3] } }

theorem witness_StepKeepsBusCoherent :
    working.NothingBeforeRunning ∧ working.BusCoherent ∧ workingBus.BusCoherent ∧ ∃ t, step workingBus = .next t := by
  refine ⟨witness_StepKeepsNothingBeforeRunning.1, ?_, ?_, ⟨_, rfl⟩⟩ <;>
    unfold State.BusCoherent State.HasDeadline <;> decide

theorem witness_StepKeepsBusCoherent_rows :
    workingBus.NothingBeforeRunning ∧ working.RemoteCoherent ∧ workingBus.RemoteCoherent := by
  refine ⟨⟨fun h => (by cases h), fun h => (by cases h)⟩, ?_, ?_⟩ <;>
    unfold State.RemoteCoherent State.HasDeadline <;> decide

theorem witness_StepKeepsRequestsInAgreement :
    working.ReservationsAgree ∧ working.DeadlinesUnique ∧ working.NothingBeforeRunning ∧ working.RequestsAgree := by
  refine ⟨witness_StepKeepsReservations, witness_StepKeepsDeadlinesUnique, witness_StepKeepsNothingBeforeRunning.1, ?_⟩
  unfold State.RequestsAgree State.SlotAgrees State.HasDeadline; decide

end Sys2Proof.Tests
end

/-! Proofs of the family `01_channels_and_configuration_claims.md`. First the commits in general: what a commit cycle leaves
to be read back, and when the next commit finds the same conditions. -/

namespace Sys2Proof.Statement

open Sys2Proof.Machine

section Commits

variable {s t : State} {c : DataCycle}

/-! ## Reading back after a commit cycle -/

@[simp] theorem answered_resetN (w : Word) (code : SubmitCode) (slot : Option SlotNo) :
    (answered s c w code slot).resetN = s.resetN := by simp [answered]

@[simp] theorem answered_timebase (w : Word) (code : SubmitCode) (slot : Option SlotNo) :
    (answered s c w code slot).timebase = s.timebase := by simp [answered]

@[simp] theorem answered_channel (w : Word) (code : SubmitCode) (slot : Option SlotNo) (ch : Channel) :
    (answered s c w code slot).channel ch = s.channel ch := by simp [answered]

@[simp] theorem answered_submitCode (w : Word) (code : SubmitCode) (slot : Option SlotNo) :
    ((answered s c w code slot).port c.port).submitCode = code := by simp [answered, afterWrite, submitted]

@[simp] theorem answered_flags (w : Word) (code : SubmitCode) (slot : Option SlotNo) :
    ((answered s c w code slot).port c.port).flags = (s.port c.port).flags := by simp [answered, afterWrite, submitted]

/-- A commit cycle says nothing of the other port. -/
theorem answered_port_of_ne {q : Port} (hq : q ≠ c.port) (w : Word) (code : SubmitCode) (slot : Option SlotNo) :
    (answered s c w code slot).port q = s.port q := State.port_setPort_of_ne s c.port q _ hq

/-! ## The conditions of a commit -/

/-- A commit is possible wherever the few fields it looks at are as they were. -/
theorem CommitReady.of_frame (h : CommitReady s c) (hn : t.resetN = s.resetN)
    (hs : t.timebase.startState = s.timebase.startState)
    (hr : (t.port c.port).rstN = (s.port c.port).rstN) (hw : (t.port c.port).writePtr = (s.port c.port).writePtr) :
    CommitReady t c := by
  obtain ⟨hsel, ⟨hres, hpin⟩, hptr, hrun⟩ := h
  exact ⟨hsel, ⟨hn.trans hres, hr.trans hpin⟩, hw.trans hptr, hs.trans hrun⟩

/-- A commit of one port leaves the other ready for its own. -/
theorem CommitReady.answered_peer {c' : DataCycle} (h : CommitReady s c') (hc : c'.port ≠ c.port)
    (w : Word) (code : SubmitCode) (slot : Option SlotNo) : CommitReady (answered s c w code slot) c' := by
  have hp := answered_port_of_ne (s := s) hc w code slot
  exact h.of_frame (answered_resetN ..) (by rw [answered_timebase]) (by rw [hp]) (by rw [hp])

/-! ## What the commits of this family come to -/

theorem CommitReady.opens (h : CommitReady s c) : Open s c.port := h.2.1

/-- A commit cycle ends with what its decision says (R19, R20). -/
theorem dataWrite_decision (h : CommitReady s c) (w : Word) {d : Decision}
    (hd : s.timebase.startState = .running → (stored s c w).decideCommit c.port = d) :
    s.dataWrite c w = concluded d c := by
  obtain ⟨hsel, hopen, hptr, hrun⟩ := h
  rw [dataWrite_commit s c w hsel hopen hptr, hd hrun]

theorem exec_claim_eq (h : CommitReady s c) :
    exec (.claim c) s = .next (concluded ((stored s c 4).decideClaim c.port) c) :=
  congrArg Host.Outcome.next (dataWrite_decision h 4 (decideCommit_running s c 4))

theorem exec_release_eq (h : CommitReady s c) :
    exec (.release c) s = .next (concluded ((stored s c 5).decideRelease c.port) c) :=
  congrArg Host.Outcome.next (dataWrite_decision h 5 (decideCommit_running s c 5))

theorem exec_configure_eq (h : CommitReady s c) :
    exec (.configure c) s = .next (concluded ((stored s c 6).decideConfigure c.port) c) :=
  congrArg Host.Outcome.next (dataWrite_decision h 6 (decideCommit_running s c 6))

@[simp] theorem stored_channel (w : Word) (ch : Channel) : (stored s c w).channel ch = s.channel ch := by
  simp [State.channel]

@[simp] theorem stored_result (w : Word) (ch : Channel) : (stored s c w).result ch = s.result ch := by
  simp [State.result]

@[simp] theorem stored_now (w : Word) : (stored s c w).now = s.now := by simp [State.now]

/-- The command word is stored beside the other staging words. -/
@[simp] theorem stored_staging (w : Word) :
    (stored s c w).staging c.port = { (s.port c.port).staging with command := w } := by simp [State.staging]

theorem setChannel_stored (w : Word) (ch : Channel) (x : ChannelRecord) :
    (stored s c w).setChannel ch x = stored (s.setChannel ch x) c w := by
  obtain ⟨_ | _, sel, adv⟩ := c <;> rfl

theorem placeDeadline_stored (w : Word) (i : DeadlineItem) (x : Stamp) :
    (stored s c w).placeDeadline i x = stored (s.placeDeadline i x) c w := by
  obtain ⟨_ | _, sel, adv⟩ := c <;> rfl

theorem dropDeadline_stored (w : Word) (i : DeadlineItem) :
    (stored s c w).dropDeadline i = stored (s.dropDeadline i) c w := by
  obtain ⟨_ | _, sel, adv⟩ := c <;> rfl

/-- An acceptance whose effect does not meet the command word. -/
theorem concluded_accept_stored (w : Word) : concluded (stored s c w).accept c = answered s c w .accepted none :=
  concluded_stored s c w .accepted none

end Commits

end Sys2Proof.Statement

/-! The claim of a channel: granting, ending and expiry, and the two commits that grant and end it. -/

namespace Sys2Proof.Claims

open Sys2Proof.Machine Sys2Proof.Statement

/-! ## A claim granted -/

/-- The claim of a channel granted to a port, or renewed, for a duration from now (R6). -/
def granted (s : State) (ch : Channel) (p : Port) (d : Word) : State :=
  (s.setChannel ch { s.channel ch with holder := some p, expiry := s.now + d.setWidth 32 }).placeDeadline (.claim ch)
    (s.now + d.setWidth 32)

section Effects

variable (s : State) (ch : Channel) (p : Port) (d : Word)

theorem granted_eq :
    granted s ch p d = withDeadline
      (withChannel s ch { s.channels[ch] with holder := some p, expiry := s.timebase.tick + d.setWidth 32 })
      (.claim ch) (s.timebase.tick + d.setWidth 32) := placeDeadline_eq ..

@[simp] theorem granted_port (q : Port) : (granted s ch p d).port q = s.port q := by simp [granted]

@[simp] theorem granted_channel : (granted s ch p d).channel ch =
    { s.channel ch with holder := some p, expiry := s.now + d.setWidth 32 } := by simp [granted]

/-- A grant drops the expiry of the claim before, also one already delivered. -/
theorem claim_not_delivered_granted : .claim ch ∉ (granted s ch p d).timebase.delivered := by
  simp [granted_eq, withDeadline]

theorem CommitReady_granted {c : DataCycle} (h : CommitReady s c) : CommitReady (granted s ch p d) c :=
  h.of_frame rfl rfl (by simp) (by simp)

/-! ## A claim ended -/

theorem endClaim_eq : s.endClaim ch =
    without (withChannel s ch { s.channels[ch] with holder := none, expiry := 0 }) (.claim ch) := dropDeadline_eq ..

@[simp] theorem endClaim_port (q : Port) : (s.endClaim ch).port q = s.port q := by simp [State.endClaim]

@[simp] theorem endClaim_channel : (s.endClaim ch).channel ch = { s.channel ch with holder := none, expiry := 0 } := by
  simp [State.endClaim]

theorem claim_not_delivered_endClaim : .claim ch ∉ (s.endClaim ch).timebase.delivered := by
  simp [endClaim_eq, without]

/-! ## The expiry of a claim -/

/-- The state after a claim's expiry whose holder's port can take the flag. -/
def lapsed (s : State) (ch : Channel) (p : Port) : State :=
  (s.endClaim ch).setPort p { s.port p with flags := (s.port p).flags.raise .claimLapsed }

theorem raise_claimLapsed : s.raise p .claimLapsed = flagged s p (fun f => { f with claimLapsed := true }) :=
  raise_eq_flagged s p .claimLapsed

@[simp] theorem lapsed_resetN : (lapsed s ch p).resetN = s.resetN := by simp [lapsed]

@[simp] theorem lapsed_startState : (lapsed s ch p).timebase.startState = s.timebase.startState := by simp [lapsed]

@[simp] theorem lapsed_now : (lapsed s ch p).now = s.now := by simp [lapsed, State.now]

@[simp] theorem lapsed_port :
    (lapsed s ch p).port p = { s.port p with flags := (s.port p).flags.raise .claimLapsed } := by simp [lapsed]

@[simp] theorem lapsed_channel : (lapsed s ch p).channel ch = { s.channel ch with holder := none, expiry := 0 } := by
  simp [lapsed]

theorem CommitReady_lapsed {c : DataCycle} (hp : c.port = p) (h : CommitReady s c) : CommitReady (lapsed s ch p) c := by
  subst hp
  exact h.of_frame (by simp) (by simp) (by simp) (by simp)

end Effects

section Expiry

variable {s : State} {ch : Channel} {p : Port}

/-- An expiry that is not delivered does not occur. -/
theorem exec_claimExpiry_of_not_delivered (h : .claim ch ∉ s.timebase.delivered) : exec (.claimExpiry ch) s = .next s := by
  have hd : ¬ s.expiryDue (.claim ch) = true := mt (expiryDue_iff s _).1 h
  exact congrArg Host.Outcome.next (if_neg hd)

theorem exec_claimExpiry_of_holder (h : .claim ch ∈ s.timebase.delivered) (hh : (s.channel ch).holder = some p) :
    exec (.claimExpiry ch) s = .next ((s.endClaim ch).raise p .claimLapsed) := by
  have hd : s.expiryDue (.claim ch) = true := (expiryDue_iff s _).2 h
  change Host.Outcome.next (s.takeClaimExpiry ch) = _
  simp only [State.takeClaimExpiry, hd, if_true, hh]

theorem exec_claimExpiry_of_open (h : .claim ch ∈ s.timebase.delivered) (hh : (s.channel ch).holder = some p)
    (ho : Open s p) : exec (.claimExpiry ch) s = .next (lapsed s ch p) := by
  have ho' : Open (s.endClaim ch) p := by simpa [Open] using ho
  have hn : ¬ (s.endClaim ch).held p = true := by simp [(held_eq_false_iff_Open _ p).2 ho']
  rw [exec_claimExpiry_of_holder h hh, State.raise, if_neg hn, lapsed, endClaim_port]

end Expiry

/-! ## CLAIM -/

section Claim

variable {s : State} {c : DataCycle} {ch : Channel}

theorem granted_stored (w : Word) (p : Port) (d : Word) :
    granted (stored s c w) ch p d = stored (granted s ch p d) c w := by
  simp only [granted, stored_channel, stored_now, setChannel_stored, placeDeadline_stored]

/-- CLAIM of a channel that there is: duration, then holder, then the grant (R6). -/
theorem decideClaim_of_channel {p : Port} (hch : (s.staging p).channel.toNat = ch.val) :
    s.decideClaim p =
      if inRange (s.staging p).paramA 1 4096 = true then
        if (s.channel ch).holder = some (peer p) then s.refuse .heldByPeer
        else (granted s ch p (s.staging p).paramA).accept
      else s.refuse .badParam := by
  simp only [State.decideClaim, channelOf_eq_some hch, granted]

theorem exec_claim_of_no_channel (h : CommitReady s c) (hch : 16 ≤ (s.port c.port).staging.channel.toNat) :
    exec (.claim c) s = .next (answered s c 4 .badChannel none) := by
  simp only [exec_claim_eq h, State.decideClaim, stored_staging, channelOf_eq_none hch, concluded_refuse]

theorem exec_claim_of_channel (h : CommitReady s c) (hch : (s.port c.port).staging.channel.toNat = ch.val) :
    exec (.claim c) s = .next
      (if inRange (s.port c.port).staging.paramA 1 4096 = true then
        if (s.channel ch).holder = some (peer c.port) then answered s c 4 .heldByPeer none
        else answered (granted s ch c.port (s.port c.port).staging.paramA) c 4 .accepted none
      else answered s c 4 .badParam none) := by
  have hch' : ((stored s c 4).staging c.port).channel.toNat = ch.val := by rw [stored_staging, hch]
  rw [exec_claim_eq h, decideClaim_of_channel hch', stored_staging, stored_channel]
  congr 1
  split
  · split
    · exact concluded_refuse ..
    · rw [granted_stored, concluded_accept_stored]
  · exact concluded_refuse ..

theorem exec_claim_heldByPeer (h : CommitReady s c) (hch : (s.port c.port).staging.channel.toNat = ch.val)
    (hlo : 1 ≤ (s.port c.port).staging.paramA.toNat) (hhi : (s.port c.port).staging.paramA.toNat ≤ 4096)
    (hh : (s.channel ch).holder = some (peer c.port)) :
    exec (.claim c) s = .next (answered s c 4 .heldByPeer none) := by
  rw [exec_claim_of_channel h hch, if_pos ((inRange_iff ..).2 ⟨hlo, hhi⟩), if_pos hh]

theorem exec_claim_granted (h : CommitReady s c) (hch : (s.port c.port).staging.channel.toNat = ch.val)
    (hlo : 1 ≤ (s.port c.port).staging.paramA.toNat) (hhi : (s.port c.port).staging.paramA.toNat ≤ 4096)
    (hh : (s.channel ch).holder = none ∨ (s.channel ch).holder = some c.port) :
    exec (.claim c) s = .next (answered (granted s ch c.port (s.port c.port).staging.paramA) c 4 .accepted none) := by
  have hne : (s.channel ch).holder ≠ some (peer c.port) := by
    rcases hh with hh | hh <;> rw [hh]
    · exact nofun
    · exact fun he => peer_ne c.port (Option.some.inj he).symm
  rw [exec_claim_of_channel h hch, if_pos ((inRange_iff ..).2 ⟨hlo, hhi⟩), if_neg hne]

/-- Settles O20: each clause names one branch of `exec_claim_of_channel`. -/
theorem claimIsDecidedInOrder : Obligations.ClaimIsDecidedInOrder := by
  intro c s h
  refine ⟨exec_claim_of_no_channel h, fun ch hch => ⟨fun hd => ?_, fun hlo hhi =>
    ⟨exec_claim_heldByPeer h hch hlo hhi, fun hh => ?_⟩⟩⟩
  · have hr : ¬ inRange (s.port c.port).staging.paramA 1 4096 = true := by rw [inRange_iff]; omega
    rw [exec_claim_of_channel h hch, if_neg hr]
  · rw [exec_claim_granted h hch hlo hhi hh, granted_eq]

end Claim

/-! ## Two CLAIMs for one channel -/

/-- The holder bits of a channel record's first word are the holder's code from the port's side (R16, 11.4). -/
theorem channelWords_holder (s : State) (p : Port) (ch : Channel) :
    ((s.channelWords p ch).getD 0 0).extractLsb' 5 2 = BitVec.ofNat 2 (holderCode p (s.channel ch).holder) := by
  have flag (k : Nat) (hk : k = 0 ∨ k = 1 ∨ k = 2 ∨ k = 4) (b : Bool) : (flagBit k b).extractLsb' 5 2 = 0 := by
    rcases hk with rfl | rfl | rfl | rfl <;> cases b <;> decide
  have clock (f : KindFields) : (kindWords f).1.extractLsb' 5 2 = 0 := by
    rcases f with ⟨_, _, _ | _⟩ | _ <;> simp [kindWords, spanClockBit, field]
  have generation (g : Byte) : (field 8 g.toNat).extractLsb' 5 2 = 0#2 := by
    apply BitVec.eq_of_toNat_eq
    simp only [field, BitVec.extractLsb'_toNat, BitVec.toNat_ofNat, Nat.shiftRight_eq_div_pow]
    omega
  have holder (o : Option Port) : (field 5 (holderCode p o)).extractLsb' 5 2 = BitVec.ofNat 2 (holderCode p o) := by
    cases p <;> rcases o with _ | _ | _ <;> decide
  simp [State.channelWords, BitVec.extractLsb'_or, flag, clock, generation, holder]

theorem peer_peer (p : Port) : peer (peer p) = p := by
  cases p <;> rfl

section TwoClaims

variable {s : State} {c c' : DataCycle} {ch : Channel}

/-- The port can commit a CLAIM of `ch` whose duration is in range. -/
def Claiming (s : State) (c : DataCycle) (ch : Channel) : Prop :=
  CommitReady s c ∧ (s.port c.port).staging.channel.toNat = ch.val
  ∧ 1 ≤ (s.port c.port).staging.paramA.toNat ∧ (s.port c.port).staging.paramA.toNat ≤ 4096

/-- The outcome of two CLAIMs: `p` holds the channel and was answered ACCEPTED, its peer HELD_BY_PEER. -/
def Won (u : State) (p : Port) (ch : Channel) : Prop :=
  (u.port p).submitCode = .accepted ∧ (u.port (peer p)).submitCode = .heldByPeer ∧ (u.channel ch).holder = some p

/-- The first of two CLAIMs of a channel that its peer does not hold is accepted, the second refused (R7). -/
theorem first_claim_wins (h : Claiming s c ch) (h' : Claiming s c' ch) (hc : c'.port = peer c.port)
    (hh : (s.channel ch).holder = none ∨ (s.channel ch).holder = some c.port) :
    ∃ t u, exec (.claim c) s = .next t ∧ exec (.claim c') t = .next u ∧ Won u c.port ch := by
  obtain ⟨hr, hch, hlo, hhi⟩ := h
  obtain ⟨hr', hch', hlo', hhi'⟩ := h'
  have hne : c'.port ≠ c.port := hc ▸ peer_ne c.port
  have hpeer : peer c'.port = c.port := by rw [hc, peer_peer]
  let d := (s.port c.port).staging.paramA
  have hport : (answered (granted s ch c.port d) c 4 .accepted none).port c'.port = s.port c'.port := by
    rw [answered_port_of_ne hne, granted_port]
  refine ⟨_, _, exec_claim_granted hr hch hlo hhi hh,
    exec_claim_heldByPeer (ch := ch) ((CommitReady_granted s ch c.port d hr').answered_peer hne 4 .accepted none)
      (by rw [hport, hch']) (by rwa [hport]) (by rwa [hport]) (by simp [hpeer]), ?_, ?_, ?_⟩
  · rw [answered_port_of_ne hne.symm, answered_submitCode]
  · rw [← hc, answered_submitCode]
  · simp

/-- A CLAIM that comes before the holder's renewal is refused, and the renewal accepted (R7). -/
theorem renewal_wins_second (h : Claiming s c ch) (h' : Claiming s c' ch) (hc : c'.port = peer c.port)
    (hh : (s.channel ch).holder = some c.port) :
    ∃ t u, exec (.claim c') s = .next t ∧ exec (.claim c) t = .next u ∧ Won u c.port ch := by
  obtain ⟨hr, hch, hlo, hhi⟩ := h
  obtain ⟨hr', hch', hlo', hhi'⟩ := h'
  have hne : c.port ≠ c'.port := hc ▸ (peer_ne c.port).symm
  have hpeer : peer c'.port = c.port := by rw [hc, peer_peer]
  have hport : (answered s c' 4 .heldByPeer none).port c.port = s.port c.port := answered_port_of_ne hne ..
  refine ⟨_, _, exec_claim_heldByPeer hr' hch' hlo' hhi' (by rw [hpeer, hh]),
    exec_claim_granted (ch := ch) (hr.answered_peer hne 4 .heldByPeer none)
      (by rw [hport, hch]) (by rwa [hport]) (by rwa [hport]) (by simp [hh]), ?_, ?_, ?_⟩
  · rw [answered_submitCode]
  · rw [← hc, answered_port_of_ne hne.symm, granted_port, answered_submitCode]
  · simp

/-- Settles O21: the unclaimed channel and the renewal taken first are one case, the renewal taken second the other. -/
theorem theFirstOfTwoClaimsWins : Obligations.TheFirstOfTwoClaimsWins := by
  intro p s ch adv adv' c c' good hr hr' hg hg'
  have h : Claiming s c ch := ⟨hr, hg⟩
  have h' : Claiming s c' ch := ⟨hr', hg'⟩
  refine ⟨fun hh => ?_, fun hh => ⟨first_claim_wins h h' rfl (.inr hh), renewal_wins_second h h' rfl hh⟩⟩
  obtain ⟨t, u, ht, hu, hacc, href, hown⟩ := first_claim_wins h h' rfl (.inl hh)
  refine ⟨t, u, ht, hu, hacc, href, hown, ?_, ?_⟩
  · rw [channelWords_holder, hown]
    simp [holderCode, c]
  · rw [channelWords_holder, hown]
    simp [holderCode, c, (peer_ne p).symm]

end TwoClaims

/-! ## RELEASE -/

section Release

variable {s : State} {c : DataCycle} {ch : Channel}

theorem endClaim_stored (w : Word) : (stored s c w).endClaim ch = stored (s.endClaim ch) c w := by
  simp only [State.endClaim, stored_channel, setChannel_stored, dropDeadline_stored]

theorem exec_release_of_no_channel (h : CommitReady s c) (hch : 16 ≤ (s.port c.port).staging.channel.toNat) :
    exec (.release c) s = .next (answered s c 5 .badChannel none) := by
  simp only [exec_release_eq h, State.decideRelease, stored_staging, channelOf_eq_none hch, concluded_refuse]

theorem exec_release_notHeld (h : CommitReady s c) (hch : (s.port c.port).staging.channel.toNat = ch.val)
    (hh : (s.channel ch).holder ≠ some c.port) : exec (.release c) s = .next (answered s c 5 .notHeld none) := by
  simp only [exec_release_eq h, State.decideRelease, stored_staging, channelOf_eq_some hch, stored_channel, if_neg hh,
    concluded_refuse]

theorem exec_release_accepted (h : CommitReady s c) (hch : (s.port c.port).staging.channel.toNat = ch.val)
    (hh : (s.channel ch).holder = some c.port) :
    exec (.release c) s = .next (answered (s.endClaim ch) c 5 .accepted none) := by
  simp only [exec_release_eq h, State.decideRelease, stored_staging, channelOf_eq_some hch, stored_channel, if_pos hh,
    endClaim_stored, concluded_accept_stored]

/-- Settles O22: no channel, no holder's right, or the end of the claim. -/
theorem releaseIsDecidedInOrder : Obligations.ReleaseIsDecidedInOrder := by
  intro c s h
  refine ⟨exec_release_of_no_channel h, fun ch hch => ⟨exec_release_notHeld h hch, fun hh => ?_⟩⟩
  rw [exec_release_accepted h hch hh, endClaim_eq]

end Release

/-! ## CLAIM_EXPIRY and the commits around it -/

section ExpiryOrders

variable {s : State} {c : DataCycle} {ch : Channel}

/-- A RELEASE after the expiry is refused: there is no claim left (R9). -/
theorem expiry_then_release (hd : .claim ch ∈ s.timebase.delivered) (hh : (s.channel ch).holder = some c.port)
    (h : CommitReady s c) (hch : (s.port c.port).staging.channel.toNat = ch.val) :
    ∃ t u, exec (.claimExpiry ch) s = .next t ∧ exec (.release c) t = .next u
      ∧ (u.port c.port).flags.claimLapsed = true ∧ (u.port c.port).submitCode = .notHeld
      ∧ (u.channel ch).holder = none ∧ (u.channel ch).expiry = 0 := by
  refine ⟨_, _, exec_claimExpiry_of_open hd hh h.opens,
    exec_release_notHeld (ch := ch) (CommitReady_lapsed s ch c.port rfl h) (by simpa using hch) (by simp), ?_⟩
  simp [EventFlags.raise]

/-- After a RELEASE no expiry is left to occur (R9). -/
theorem release_then_expiry (hh : (s.channel ch).holder = some c.port)
    (h : CommitReady s c) (hch : (s.port c.port).staging.channel.toNat = ch.val) :
    ∃ t, exec (.release c) s = .next t ∧ exec (.claimExpiry ch) t = .next t
      ∧ (t.port c.port).flags = (s.port c.port).flags ∧ (t.port c.port).submitCode = .accepted
      ∧ (t.channel ch).holder = none ∧ (t.channel ch).expiry = 0 := by
  refine ⟨_, exec_release_accepted h hch hh, exec_claimExpiry_of_not_delivered ?_, ?_⟩
  · rw [answered_timebase]
    exact claim_not_delivered_endClaim s ch
  · simp

/-- A renewal before the expiry drops the old one and keeps the claim (R9). -/
theorem claim_then_expiry (hh : (s.channel ch).holder = some c.port) (h : Claiming s c ch) :
    ∃ t, exec (.claim c) s = .next t ∧ exec (.claimExpiry ch) t = .next t
      ∧ (t.port c.port).flags = (s.port c.port).flags ∧ (t.port c.port).submitCode = .accepted
      ∧ (t.channel ch).holder = some c.port
      ∧ (t.channel ch).expiry = s.now + (s.port c.port).staging.paramA.setWidth 32 := by
  obtain ⟨hr, hch, hlo, hhi⟩ := h
  refine ⟨_, exec_claim_granted hr hch hlo hhi (.inr hh), exec_claimExpiry_of_not_delivered ?_, ?_⟩
  · rw [answered_timebase]
    exact claim_not_delivered_granted s ch _ _
  · simp

/-- A CLAIM after the expiry finds no holder and is a new claim (R9). -/
theorem expiry_then_claim (hd : .claim ch ∈ s.timebase.delivered) (hh : (s.channel ch).holder = some c.port)
    (h : Claiming s c ch) :
    ∃ t u, exec (.claimExpiry ch) s = .next t ∧ exec (.claim c) t = .next u
      ∧ (u.port c.port).flags.claimLapsed = true ∧ (u.port c.port).submitCode = .accepted
      ∧ (u.channel ch).holder = some c.port
      ∧ (u.channel ch).expiry = s.now + (s.port c.port).staging.paramA.setWidth 32 := by
  obtain ⟨hr, hch, hlo, hhi⟩ := h
  refine ⟨_, _, exec_claimExpiry_of_open hd hh hr.opens,
    exec_claim_granted (ch := ch) (CommitReady_lapsed s ch c.port rfl hr) (by simpa using hch) (by simpa using hlo)
      (by simpa using hhi) (by simp), ?_⟩
  simp [EventFlags.raise]

/-- Settles O23, from the expiry's own effect and the four orders. -/
theorem claimExpiryEndsTheClaim : Obligations.ClaimExpiryEndsTheClaim := by
  intro s ch p hd hh
  constructor
  · rw [exec_claimExpiry_of_holder hd hh, raise_claimLapsed, endClaim_eq]
  · intro adv c h hch
    refine ⟨expiry_then_release hd hh h hch, release_then_expiry hh h hch, fun hlo hhi => ?_⟩
    have hc : Claiming s c ch := ⟨h, hch, hlo, hhi⟩
    exact ⟨claim_then_expiry hh hc, expiry_then_claim hd hh hc⟩

end ExpiryOrders

/-! ## CONFIGURE with enable ON -/

section ConfigureOn

variable {s : State} {c : DataCycle} {ch : Channel} {st : Staging} {f : KindFields}

/-! The ranges of each kind (R12). -/

theorem requestedFields_local_out_of_range (hk : ch.val < 8) (h : st.config1.toNat < 16 ∨ 7 < st.config2.toNat) :
    requestedFields ch st = none := by
  have hl : isLocal ch = true := decide_eq_true hk
  have hr : ¬ (inRange st.config1 16 65535 && inRange st.config2 0 7) = true := by
    rw [Bool.and_eq_true, inRange_iff, inRange_iff]; omega
  rw [requestedFields, if_pos hl, if_neg hr]

theorem requestedFields_local_in_range (hk : ch.val < 8) (h : 16 ≤ st.config1.toNat) {input : Fin 8}
    (hi : st.config2.toNat = input.val) :
    requestedFields ch st =
      some (.localKind input st.config1 (if st.settings.getLsbD 2 = true then .fast else .slow)) := by
  have hl : isLocal ch = true := decide_eq_true hk
  have hr : (inRange st.config1 16 65535 && inRange st.config2 0 7) = true := by
    rw [Bool.and_eq_true, inRange_iff, inRange_iff]; omega
  rw [requestedFields, if_pos hl, if_pos hr, hi, Fin.ofNat_val_eq_self, settingsSpanClock]

/-- The ranges of the configuration words of a remote channel. -/
def RemoteInRange (st : Staging) : Prop :=
  0x08 ≤ st.config1.toNat ∧ st.config1.toNat ≤ 0x77 ∧ 1 ≤ st.config2.toNat ∧ st.config2.toNat ≤ 255
  ∧ st.config3.toNat ≤ 15

theorem remoteInRange_iff :
    (inRange st.config1 0x08 0x77 && inRange st.config2 1 255 && inRange st.config3 0 15) = true ↔ RemoteInRange st := by
  simp only [Bool.and_eq_true, inRange_iff, RemoteInRange]
  omega

theorem requestedFields_remote_out_of_range (hk : 8 ≤ ch.val) (h : ¬ RemoteInRange st) : requestedFields ch st = none := by
  have hl : ¬ isLocal ch = true := by simp [isLocal, hk]
  rw [requestedFields, if_neg hl, if_neg (mt remoteInRange_iff.1 h)]

theorem requestedFields_remote_in_range (hk : 8 ≤ ch.val) (h : RemoteInRange st) :
    requestedFields ch st =
      some (.remoteKind (st.config1.setWidth 7) (st.config2.setWidth 8) (st.config3.setWidth 4)) := by
  have hl : ¬ isLocal ch = true := by simp [isLocal, hk]
  rw [requestedFields, if_neg hl, if_pos (remoteInRange_iff.2 h)]

/-! The bus address (R11 check 5). -/

theorem addressInUse_localKind (input : Fin 8) (n : Word) (clock : SpanClock) :
    s.addressInUse ch (.localKind input n clock) = false := rfl

theorem addressInUse_remoteKind_iff (address : BitVec 7) (settle : Byte) (limit : BitVec 4) :
    s.addressInUse ch (.remoteKind address settle limit) = true ↔
      ∃ d : Channel, d ≠ ch ∧ (s.channel d).enable = true ∧ (s.channel d).fields.address = some address := by
  have ha : (KindFields.remoteKind address settle limit).address = some address := rfl
  simp only [State.addressInUse, ha]
  simp [and_assoc]

theorem addressInUse_stored (w : Word) : (stored s c w).addressInUse ch f = s.addressInUse ch f := by
  simp only [State.addressInUse, stored_channel]

/-! The checks in their order (R11). -/

/-- The command word does not enter the fields asked for. -/
theorem requestedFields_command (w : Word) : requestedFields ch { st with command := w } = requestedFields ch st := rfl

theorem exec_configure_of_no_channel (h : CommitReady s c) (hch : 16 ≤ (s.port c.port).staging.channel.toNat) :
    exec (.configure c) s = .next (answered s c 6 .badChannel none) := by
  simp only [exec_configure_eq h, State.decideConfigure, stored_staging, channelOf_eq_none hch, concluded_refuse]

theorem exec_configure_notHolder (h : CommitReady s c) (hch : (s.port c.port).staging.channel.toNat = ch.val)
    (hh : (s.channel ch).holder ≠ some c.port) : exec (.configure c) s = .next (answered s c 6 .notHolder none) := by
  simp only [exec_configure_eq h, State.decideConfigure, stored_staging, channelOf_eq_some hch, stored_channel, if_neg hh,
    concluded_refuse]

theorem exec_configure_channelBusy (h : CommitReady s c) (hch : (s.port c.port).staging.channel.toNat = ch.val)
    (hh : (s.channel ch).holder = some c.port) (hb : (s.result ch).reserved = true) :
    exec (.configure c) s = .next (answered s c 6 .channelBusy none) := by
  simp only [exec_configure_eq h, State.decideConfigure, stored_staging, channelOf_eq_some hch, stored_channel, if_pos hh,
    stored_result, if_pos hb, concluded_refuse]

/-- A CONFIGURE with enable ON that has passed the checks of channel, holder and reservation. -/
def ConfiguringOn (s : State) (c : DataCycle) (ch : Channel) : Prop :=
  CommitReady s c ∧ (s.port c.port).staging.channel.toNat = ch.val ∧ (s.channel ch).holder = some c.port
  ∧ (s.result ch).reserved = false ∧ (s.port c.port).staging.settings.getLsbD 0 = true

/-- The record that an accepted CONFIGURE with enable ON writes (R12). -/
def configuredOn (s : State) (ch : Channel) (st : Staging) (f : KindFields) : State :=
  s.setChannel ch { s.channel ch with
    enable := true, round := settingsRound st.settings, fields := f, generation := (s.channel ch).generation + 1 }

theorem exec_configure_configRange (h : ConfiguringOn s c ch) (hf : requestedFields ch (s.port c.port).staging = none) :
    exec (.configure c) s = .next (answered s c 6 .configRange none) := by
  obtain ⟨hr, hch, hh, hb, hon⟩ := h
  have hb' : ¬ (s.result ch).reserved = true := by simp [hb]
  simp only [exec_configure_eq hr, State.decideConfigure, stored_staging, channelOf_eq_some hch, stored_channel, if_pos hh,
    stored_result, if_neg hb', settingsEnable, if_pos hon, requestedFields_command, hf, concluded_refuse]

/-- With the ranges passed, the bus address decides (R11). -/
theorem exec_configure_in_range (h : ConfiguringOn s c ch) (hf : requestedFields ch (s.port c.port).staging = some f) :
    exec (.configure c) s = .next (if s.addressInUse ch f = true then answered s c 6 .addressInUse none
      else answered (configuredOn s ch (s.port c.port).staging f) c 6 .accepted none) := by
  obtain ⟨hr, hch, hh, hb, hon⟩ := h
  have hb' : ¬ (s.result ch).reserved = true := by simp [hb]
  simp only [exec_configure_eq hr, State.decideConfigure, stored_staging, channelOf_eq_some hch, stored_channel, if_pos hh,
    stored_result, if_neg hb', settingsEnable, if_pos hon, requestedFields_command, hf, addressInUse_stored]
  split
  · rw [concluded_refuse]
  · rw [setChannel_stored, concluded_accept_stored, configuredOn]

theorem exec_configure_addressInUse (h : ConfiguringOn s c ch)
    (hf : requestedFields ch (s.port c.port).staging = some f) (ha : s.addressInUse ch f = true) :
    exec (.configure c) s = .next (answered s c 6 .addressInUse none) := by
  rw [exec_configure_in_range h hf, if_pos ha]

theorem exec_configure_accepted (h : ConfiguringOn s c ch)
    (hf : requestedFields ch (s.port c.port).staging = some f) (ha : s.addressInUse ch f = false) :
    exec (.configure c) s = .next (answered (configuredOn s ch (s.port c.port).staging f) c 6 .accepted none) := by
  rw [exec_configure_in_range h hf, if_neg (by simp [ha])]

/-- Settles O24: the checks before the ranges, then the ranges and the address of each kind. -/
theorem configureOnIsDecidedInOrder : Obligations.ConfigureOnIsDecidedInOrder := by
  intro c s h hon st result refused setTo
  refine ⟨exec_configure_of_no_channel h, fun ch hch => ⟨exec_configure_notHolder h hch, fun hh =>
    ⟨exec_configure_channelBusy h hch hh, fun hb => ?_⟩⟩⟩
  have hc : ConfiguringOn s c ch := ⟨h, hch, hh, hb, hon⟩
  refine ⟨fun hk => ⟨fun hbad => ?_, fun hn input hi => ?_⟩, fun hk => ⟨fun hbad => ?_, fun hl ht => ?_, fun hl ht => ?_⟩⟩
  · exact exec_configure_configRange hc (requestedFields_local_out_of_range hk hbad)
  · exact exec_configure_accepted hc (requestedFields_local_in_range hk hn hi) (addressInUse_localKind ..)
  · exact exec_configure_configRange hc (requestedFields_remote_out_of_range hk hbad)
  · exact exec_configure_addressInUse hc (requestedFields_remote_in_range hk hl) ((addressInUse_remoteKind_iff ..).2 ht)
  · exact exec_configure_accepted hc (requestedFields_remote_in_range hk hl)
      (Bool.eq_false_iff.2 (mt (addressInUse_remoteKind_iff ..).1 ht))

end ConfigureOn

end Sys2Proof.Claims

/-! Proofs of the family `02_requests_and_slots.md`. First what the operations on one slot come to in the words of the
statements: its value, its record, its conversion request, its end. -/

namespace Sys2Proof.Requests

open Sys2Proof.Machine Sys2Proof.Statement

section SlotOperations

variable (s : State) (p : Port) (i : SlotNo) (x : PortState) (y z : Slot)

/-! ## A slot and its record -/

@[simp] theorem withSlot_withSlot : withSlot (withSlot x i y) i z = withSlot x i z := by simp [withSlot]

theorem setSlot_eq : s.setSlot p i y = s.setPort p (withSlot (s.port p) i y) := rfl

theorem appendRecord_eq (r : ResponseRecord) : s.appendRecord p r = s.setPort p (appended (s.port p) r) := rfl

theorem changeRecord_eq (f : ResponseRecord → ResponseRecord) :
    s.changeRecord p i f = s.setPort p (changed (s.port p) i f) := rfl

@[simp] theorem setSlot_setSlot : (s.setSlot p i y).setSlot p i z = s.setSlot p i z := by simp [setSlot_eq]

/-- A deadline and a slot are set in either order. -/
theorem placeDeadline_setSlot (d : DeadlineItem) (t : Stamp) :
    (s.setSlot p i y).placeDeadline d t = (withDeadline s d t).setSlot p i y := by
  rw [placeDeadline_eq]
  cases p <;> rfl

@[simp] theorem withDeadline_port (d : DeadlineItem) (t : Stamp) : (withDeadline s d t).port p = s.port p := by
  cases p <;> rfl

/-! ## A delivery (R28, R75 to R77) -/

variable (source : Source) (part : ResultPart)

theorem deliver_convert (hk : y.kind = .convert) :
    (s.setSlot p i y).deliver p i source part =
      s.setPort p (appended (withSlot (s.port p) i { y with state := .finished })
        (resultRecord y i true source 0 part)) := by
  simp only [State.deliver, State.slot_setSlot, hk, setSlot_setSlot]
  simp only [setSlot_eq, appendRecord_eq, State.port_setPort, State.setPort_setPort]
  rfl

theorem deliver_new_notice (hk : y.kind = .watch) (hn : y.noticeQueued = false) :
    (s.setSlot p i y).deliver p i source part =
      s.setPort p (appended (withSlot (s.port p) i { y with state := .dormant, noticeQueued := true })
        (resultRecord y i false source y.missed part)) := by
  simp only [State.deliver, State.slot_setSlot, hk, hn, setSlot_setSlot]
  simp only [setSlot_eq, appendRecord_eq, State.port_setPort, State.setPort_setPort]
  rfl

theorem deliver_queued_notice (hk : y.kind = .watch) (hn : y.noticeQueued = true) :
    (s.setSlot p i y).deliver p i source part =
      s.setPort p (changed (withSlot (s.port p) i { y with state := .dormant, noticeQueued := true }) i fun r =>
        { r with source := source, part := some part, missed := y.missed, coalesced := oneMore r.coalesced }) := by
  simp only [State.deliver, State.slot_setSlot, hk, hn, setSlot_setSlot]
  simp only [setSlot_eq, changeRecord_eq, State.port_setPort, State.setPort_setPort]
  rfl

/-! ## The conversion request of a slot (R43 to R46) -/

variable {y}

theorem request_reused (h : Reusable s y.channel y.maxAge) :
    (s.setSlot p i y).requestConversion p i =
      (s.setSlot p i y).deliver p i .table s.results[y.channel].part := by
  have hr : (s.setSlot p i y).reusePasses y.channel y.maxAge = true := by
    rw [reusePasses_iff_Reusable]; simpa [Reusable] using h
  simp only [State.requestConversion, State.slot_setSlot, if_pos hr, State.result_setSlot]
  rfl

theorem request_waiting (h : ¬ Reusable s y.channel y.maxAge) :
    (s.setSlot p i y).requestConversion p i =
      { s with pendingList := requested s.pendingList y.channel { port := p, slot := i } }.setPort p
        (withSlot (s.port p) i { y with state := .waiting, joinStamp := s.timebase.tick }) := by
  have hr : ¬ (s.setSlot p i y).reusePasses y.channel y.maxAge = true := by
    rw [reusePasses_iff_Reusable]; simpa [Reusable] using h
  simp only [State.requestConversion, State.slot_setSlot, if_neg hr, setSlot_setSlot, joinOrPlace_eq_requested,
    State.setSlot_pendingList, State.now_setSlot]
  cases p <;> rfl

/-! ## The end of a slot's request (R33, R34, R78) -/

/-- A port after the request of one slot has ended: the slot FINISHED, with its final record. -/
def endedPort (x : PortState) (i : SlotNo) (d : Disposition) : PortState :=
  let y := x.slots[i]
  let x1 := withSlot x i { y with state := .finished }
  if y.noticeQueued = true then changed x1 i fun r => { r with final := true, disposition := d, missed := y.missed }
  else appended x1 (endRecord y i d)

theorem endSlot_eq (d : Disposition) :
    s.endSlot p i d =
      (if (s.slot p i).kind = .watch then without s (.watchDue p i) else s).setPort p (endedPort (s.port p) i d) := by
  have hport : (if (s.slot p i).kind = .watch then without s (.watchDue p i) else s).port p = s.port p := by
    split <;> cases p <;> rfl
  simp only [State.endSlot, dropDeadline_eq, setSlot_eq, hport, changeRecord_eq, appendRecord_eq, State.port_setPort,
    State.setPort_setPort]
  simp only [endedPort, apply_ite (State.setPort _ p)]
  rfl

/-- A waiter leaves every waiter set, and an entry emptied by that leaves the list (R55). -/
theorem removeWaiter_eq (w : Waiter) :
    let rest := fun ws : List Waiter => ws.filter fun v => decide (v ≠ w)
    s.removeWaiters (fun v => decide (v = w)) = { s with
      pendingList := s.pendingList.filterMap fun e =>
        if w ∈ e.waiters then (if rest e.waiters = [] then none else some { e with waiters := rest e.waiters })
        else some e
      inFlight := s.inFlight.map fun r => { r with waiters := rest r.waiters } } := by
  intro rest
  have hrest (ws : List Waiter) : dropWaiters (fun v => decide (v = w)) ws = rest ws := by simp [dropWaiters, rest]
  have hentry (e : PendingEntry) : thinnedEntry (fun v => decide (v = w)) e =
      if w ∈ e.waiters then (if rest e.waiters = [] then none else some { e with waiters := rest e.waiters })
      else some e := by
    simp only [thinnedEntry, hrest, List.any_eq_true, decide_eq_true_eq, exists_eq_right, List.isEmpty_iff]
  simp only [State.removeWaiters, hrest, funext hentry]

end SlotOperations

/-! ## Beside the command word

The command word of a commit is stored before the request acts; the operations on slots do not meet it. -/

section Stored

variable (s : State) (c : DataCycle) (w : Word) (p : Port) (i : SlotNo)

theorem setSlot_stored (y : Slot) : (stored s c w).setSlot p i y = stored (s.setSlot p i y) c w := by
  obtain ⟨_ | _, sel, adv⟩ := c <;> cases p <;> rfl

@[simp] theorem slot_stored : (stored s c w).slot p i = s.slot p i := by
  obtain ⟨_ | _, sel, adv⟩ := c <;> cases p <;> rfl

theorem appendRecord_stored (r : ResponseRecord) :
    (stored s c w).appendRecord p r = stored (s.appendRecord p r) c w := by
  obtain ⟨_ | _, sel, adv⟩ := c <;> cases p <;> rfl

theorem changeRecord_stored (f : ResponseRecord → ResponseRecord) :
    (stored s c w).changeRecord p i f = stored (s.changeRecord p i f) c w := by
  obtain ⟨_ | _, sel, adv⟩ := c <;> cases p <;> rfl

theorem deliver_stored (source : Source) (part : ResultPart) :
    (stored s c w).deliver p i source part = stored (s.deliver p i source part) c w := by
  simp only [State.deliver, slot_stored, setSlot_stored, appendRecord_stored, changeRecord_stored]
  cases (s.slot p i).kind
  · rfl
  · exact (apply_ite (stored · c w) ..).symm

theorem requestConversion_stored :
    (stored s c w).requestConversion p i = stored (s.requestConversion p i) c w := by
  have hr : (stored s c w).reusePasses = s.reusePasses := by
    funext ch m; simp only [State.reusePasses, stored_result, stored_channel, stored_now]
  simp only [State.requestConversion, slot_stored, hr, stored_result, deliver_stored, setSlot_stored, stored_now,
    stored_pendingList]
  split
  · rfl
  · obtain ⟨_ | _, sel, adv⟩ := c <;> rfl

theorem endSlot_stored (d : Disposition) : (stored s c w).endSlot p i d = stored (s.endSlot p i d) c w := by
  simp only [State.endSlot, slot_stored, dropDeadline_stored, ← apply_ite (stored · c w), setSlot_stored,
    appendRecord_stored, changeRecord_stored]

theorem removeWaiters_stored (chosen : Waiter → Bool) :
    (stored s c w).removeWaiters chosen = stored (s.removeWaiters chosen) c w := by
  obtain ⟨_ | _, sel, adv⟩ := c <;> rfl

end Stored

/-! ## CONVERT -/

section Convert

variable {s : State} {c : DataCycle} {ch : Channel} {i : SlotNo}

theorem exec_convert_eq (h : CommitReady s c) :
    exec (.convert c) s = .next (concluded ((stored s c 1).decideConvert c.port) c) :=
  congrArg Host.Outcome.next (dataWrite_decision h 1 (decideCommit_running s c 1))

/-- The slot that a CONVERT gives (R25). -/
def convertSlot (st : Staging) (ch : Channel) : Slot :=
  { freeSlotValues with kind := .convert, channel := ch, tag := st.tag, maxAge := st.paramB }

theorem exec_convert_of_no_channel (h : CommitReady s c) (hch : 16 ≤ (s.port c.port).staging.channel.toNat) :
    exec (.convert c) s = .next (answered s c 1 .badChannel none) := by
  simp only [exec_convert_eq h, State.decideConvert, stored_staging, channelOf_eq_none hch, concluded_refuse]

theorem exec_convert_channelOff (h : CommitReady s c) (hch : (s.port c.port).staging.channel.toNat = ch.val)
    (he : (s.channel ch).enable = false) : exec (.convert c) s = .next (answered s c 1 .channelOff none) := by
  have he' : ¬ (s.channel ch).enable = true := by simp [he]
  simp only [exec_convert_eq h, State.decideConvert, stored_staging, channelOf_eq_some hch, stored_channel, if_neg he',
    concluded_refuse]

theorem exec_convert_noSlot (h : CommitReady s c) (hch : (s.port c.port).staging.channel.toNat = ch.val)
    (he : (s.channel ch).enable = true) (hf : NoFree (s.port c.port)) :
    exec (.convert c) s = .next (answered s c 1 .noSlot none) := by
  simp only [exec_convert_eq h, State.decideConvert, stored_staging, channelOf_eq_some hch, stored_channel, if_pos he,
    freeSlot_of_NoFree ((stored_NoFree s c 1).2 hf), concluded_refuse]

/-- A CONVERT that passes its checks: the slot is given and requests its conversion (R25). -/
theorem exec_convert_accepted (h : CommitReady s c) (hch : (s.port c.port).staging.channel.toNat = ch.val)
    (he : (s.channel ch).enable = true) (hi : LowestFree (s.port c.port) i) :
    exec (.convert c) s = .next (answered
      ((s.setSlot c.port i (convertSlot (s.port c.port).staging ch)).requestConversion c.port i)
      c 1 .accepted (some i)) := by
  simp only [exec_convert_eq h, State.decideConvert, stored_staging, channelOf_eq_some hch, stored_channel, if_pos he,
    freeSlot_of_LowestFree ((stored_LowestFree s c 1 i).2 hi), setSlot_stored, requestConversion_stored]
  exact congrArg Host.Outcome.next (concluded_stored ..)

/-- Settles O26: the checks in their order, then the request of the slot given. -/
theorem convertIsDecidedInOrder : Obligations.ConvertIsDecidedInOrder := by
  intro c s h x st
  refine ⟨exec_convert_of_no_channel h, fun ch hch => ⟨exec_convert_channelOff h hch, fun he =>
    ⟨exec_convert_noSlot h hch he, fun i hi => ?_⟩⟩⟩
  rw [exec_convert_accepted h hch he hi]
  refine ⟨fun hr => ?_, fun hr => ?_⟩
  · rw [request_reused _ _ _ hr, deliver_convert _ _ _ _ _ _ rfl]
    rfl
  · rw [request_waiting _ _ _ hr]
    rfl

end Convert

/-! ## WATCH -/

section Watch

variable {s : State} {c : DataCycle} {ch : Channel} {i : SlotNo}

theorem exec_watch_eq (h : CommitReady s c) :
    exec (.watch c) s = .next (concluded ((stored s c 2).decideWatch c.port) c) :=
  congrArg Host.Outcome.next (dataWrite_decision h 2 (decideCommit_running s c 2))

/-- The slot that a WATCH gives, with its first due (R27). -/
def watchSlot (st : Staging) (ch : Channel) (due : Stamp) : Slot :=
  { freeSlotValues with
    kind := .watch, channel := ch, tag := st.tag, maxAge := st.paramB, period := st.paramA, nextDue := due }

theorem exec_watch_of_no_channel (h : CommitReady s c) (hch : 16 ≤ (s.port c.port).staging.channel.toNat) :
    exec (.watch c) s = .next (answered s c 2 .badChannel none) := by
  simp only [exec_watch_eq h, State.decideWatch, stored_staging, channelOf_eq_none hch, concluded_refuse]

theorem exec_watch_channelOff (h : CommitReady s c) (hch : (s.port c.port).staging.channel.toNat = ch.val)
    (he : (s.channel ch).enable = false) : exec (.watch c) s = .next (answered s c 2 .channelOff none) := by
  have he' : ¬ (s.channel ch).enable = true := by simp [he]
  simp only [exec_watch_eq h, State.decideWatch, stored_staging, channelOf_eq_some hch, stored_channel, if_neg he',
    concluded_refuse]

/-- The period's upper end is the greatest value of its word. -/
theorem period_in_range_iff (w : Word) : inRange w 8 65535 = true ↔ 8 ≤ w.toNat := by
  have := w.isLt
  rw [inRange_iff]
  omega

theorem exec_watch_badParam (h : CommitReady s c) (hch : (s.port c.port).staging.channel.toNat = ch.val)
    (he : (s.channel ch).enable = true) (hp : (s.port c.port).staging.paramA.toNat < 8) :
    exec (.watch c) s = .next (answered s c 2 .badParam none) := by
  have hp' : ¬ inRange (s.port c.port).staging.paramA 8 65535 = true := by rw [period_in_range_iff]; omega
  simp only [exec_watch_eq h, State.decideWatch, stored_staging, channelOf_eq_some hch, stored_channel, if_pos he,
    if_neg hp', concluded_refuse]

theorem exec_watch_noSlot (h : CommitReady s c) (hch : (s.port c.port).staging.channel.toNat = ch.val)
    (he : (s.channel ch).enable = true) (hp : 8 ≤ (s.port c.port).staging.paramA.toNat) (hf : NoFree (s.port c.port)) :
    exec (.watch c) s = .next (answered s c 2 .noSlot none) := by
  simp only [exec_watch_eq h, State.decideWatch, stored_staging, channelOf_eq_some hch, stored_channel, if_pos he,
    if_pos ((period_in_range_iff _).2 hp), freeSlot_of_NoFree ((stored_NoFree s c 2).2 hf), concluded_refuse]

/-- A WATCH that passes its checks: the slot is given, its due deadline placed, and its first conversion requested. -/
theorem exec_watch_accepted (h : CommitReady s c) (hch : (s.port c.port).staging.channel.toNat = ch.val)
    (he : (s.channel ch).enable = true) (hp : 8 ≤ (s.port c.port).staging.paramA.toNat)
    (hi : LowestFree (s.port c.port) i) :
    let due := s.timebase.tick + (s.port c.port).staging.paramA.setWidth 32
    exec (.watch c) s = .next (answered
      (((withDeadline s (.watchDue c.port i) due).setSlot c.port i
        (watchSlot (s.port c.port).staging ch due)).requestConversion c.port i) c 2 .accepted (some i)) := by
  intro due
  have hd : (stored s c 2).firstDue c.port = due := by simp only [State.firstDue, stored_staging, stored_now]; rfl
  simp only [exec_watch_eq h, State.decideWatch, stored_staging, channelOf_eq_some hch, stored_channel, if_pos he,
    if_pos ((period_in_range_iff _).2 hp), freeSlot_of_LowestFree ((stored_LowestFree s c 2 i).2 hi), hd, setSlot_stored,
    placeDeadline_stored, placeDeadline_setSlot, requestConversion_stored]
  exact congrArg Host.Outcome.next (concluded_stored ..)

/-- Settles O27: the checks in their order, then the request of the slot given, beside its deadline. -/
theorem watchIsDecidedInOrder : Obligations.WatchIsDecidedInOrder := by
  intro c s h x st
  refine ⟨exec_watch_of_no_channel h, fun ch hch => ⟨exec_watch_channelOff h hch, fun he =>
    ⟨exec_watch_badParam h hch he, fun hp => ⟨exec_watch_noSlot h hch he hp, fun i hi => ?_⟩⟩⟩⟩
  rw [exec_watch_accepted h hch he hp hi]
  refine ⟨fun hr => ?_, fun hr => ?_⟩
  · rw [request_reused _ _ _ hr, deliver_new_notice _ _ _ _ _ _ rfl rfl, withDeadline_port]
    rfl
  · rw [request_waiting _ _ _ hr, withDeadline_port]
    rfl

end Watch

/-! ## DUE_EXPIRY -/

section Due

variable {s : State} {p : Port} {i : SlotNo}

/-- The due that follows the one that has expired (R29). -/
def nextDue (y : Slot) : Stamp := y.nextDue + y.period.setWidth 32

theorem exec_dueExpiry_waiting (h : .watchDue p i ∈ s.timebase.delivered) (hw : (s.slot p i).state = .waiting) :
    let y := s.slot p i
    exec (.dueExpiry p i) s = .next ((withDeadline s (.watchDue p i) (nextDue y)).setSlot p i
      { y with nextDue := nextDue y, missed := oneMore y.missed }) := by
  intro y
  change Host.Outcome.next (s.takeDueExpiry p i) = _
  simp only [State.takeDueExpiry, (expiryDue_iff s _).2 h, if_true, hw, placeDeadline_setSlot]
  rw [← hw]
  rfl

theorem exec_dueExpiry_dormant (h : .watchDue p i ∈ s.timebase.delivered) (hd : (s.slot p i).state = .dormant) :
    let y := s.slot p i
    exec (.dueExpiry p i) s = .next (((withDeadline s (.watchDue p i) (nextDue y)).setSlot p i
      { y with nextDue := nextDue y }).requestConversion p i) := by
  intro y
  change Host.Outcome.next (s.takeDueExpiry p i) = _
  simp only [State.takeDueExpiry, (expiryDue_iff s _).2 h, if_true, hd, placeDeadline_setSlot]
  rw [← hd]
  rfl

/-- Settles O31: a WAITING slot counts, a DORMANT one requests, both beside the new deadline. -/
theorem dueExpiryKeepsThePhase : Obligations.DueExpiryKeepsThePhase := by
  intro s p i h x y due s'
  refine ⟨fun hw => ?_, fun hd hk => ⟨fun hr => ?_, fun hr hn => ?_, fun hr hn => ?_⟩⟩
  · rw [exec_dueExpiry_waiting h hw, setSlot_eq, withDeadline_port]
    rfl
  all_goals
    rw [exec_dueExpiry_dormant h hd]
    change Host.Outcome.next ((s'.setSlot p i { y with nextDue := due }).requestConversion p i) = _
  · rw [request_waiting s' p i (y := { y with nextDue := due }) hr, withDeadline_port]
    rfl
  all_goals rw [request_reused s' p i (y := { y with nextDue := due }) hr]
  · rw [deliver_new_notice s' p i { y with nextDue := due } _ _ hk hn, withDeadline_port, ← hd]
    rfl
  · have hy : ({ y with nextDue := due } : Slot) =
        { y with nextDue := due, state := .dormant, noticeQueued := true } := by rw [← hd, ← hn]
    rw [deliver_queued_notice s' p i { y with nextDue := due } _ _ hk hn, withDeadline_port, hy]
    rfl

end Due

/-! ## CANCEL -/

section Cancel

variable {s : State} {c : DataCycle} {i : SlotNo}

theorem exec_cancel_eq (h : CommitReady s c) :
    exec (.cancel c) s = .next (concluded ((stored s c 3).decideCancel c.port) c) :=
  congrArg Host.Outcome.next (dataWrite_decision h 3 (decideCommit_running s c 3))

theorem exec_cancel_of_no_slot (h : CommitReady s c) (hi : 12 ≤ (s.port c.port).staging.paramA.toNat) :
    exec (.cancel c) s = .next (answered s c 3 .badSlot none) := by
  simp only [exec_cancel_eq h, State.decideCancel, stored_staging, slotOf_eq_none hi, concluded_refuse]

theorem exec_cancel_badSlot (h : CommitReady s c) (hi : (s.port c.port).staging.paramA.toNat = i.val)
    (hs : (s.slot c.port i).state = .free ∨ (s.slot c.port i).state = .finished) :
    exec (.cancel c) s = .next (answered s c 3 .badSlot none) := by
  rcases hs with hs | hs <;>
    simp only [exec_cancel_eq h, State.decideCancel, stored_staging, slotOf_eq_some hi, slot_stored, hs, concluded_refuse]

/-- The state in which a CANCEL ends the slot: a WAITING one has left its waiter set (R33). -/
def leftWaiters (s : State) (p : Port) (i : SlotNo) : State :=
  if (s.slot p i).state = .waiting then s.removeWaiters (fun w => decide (w = { port := p, slot := i })) else s

theorem exec_cancel_accepted (h : CommitReady s c) (hi : (s.port c.port).staging.paramA.toNat = i.val)
    (hs : (s.slot c.port i).state = .waiting ∨ (s.slot c.port i).state = .dormant) :
    exec (.cancel c) s = .next
      (answered ((leftWaiters s c.port i).endSlot c.port i .cancelled) c 3 .accepted (some i)) := by
  rcases hs with hs | hs <;>
    simp only [exec_cancel_eq h, State.decideCancel, stored_staging, slotOf_eq_some hi, slot_stored, hs,
      removeWaiters_stored, endSlot_stored, leftWaiters] <;>
    exact congrArg Host.Outcome.next (concluded_stored ..)

theorem leftWaiters_port (p q : Port) : (leftWaiters s p i).port q = s.port q := by
  unfold leftWaiters
  split <;> cases q <;> rfl

/-- Settles O28: the one check, then the end of the slot outside its waiter set. -/
theorem cancelEndsTheRequest : Obligations.CancelEndsTheRequest := by
  intro c s h x
  refine ⟨exec_cancel_of_no_slot h, fun i hi => ?_⟩
  intro y w rest left s1 s2 x1
  have hs1 : leftWaiters s c.port i = s1 := by rw [leftWaiters, removeWaiter_eq]; rfl
  have hs2 : (leftWaiters s c.port i).endSlot c.port i .cancelled = s2.setPort c.port (endedPort x i .cancelled) := by
    rw [endSlot_eq, State.slot, leftWaiters_port, hs1]
  refine ⟨exec_cancel_badSlot h hi, fun hs => ?_⟩
  rw [exec_cancel_accepted h hi hs, hs2, endedPort]
  refine ⟨fun hn => ?_, fun hn => ?_⟩
  · rw [if_neg (show ¬ x.slots[i].noticeQueued = true from Bool.eq_false_iff.1 hn)]
  · rw [if_pos (show x.slots[i].noticeQueued = true from hn)]

end Cancel

end Sys2Proof.Requests

/-! The withdrawal of a channel that CONFIGURE turns OFF: the slots of one port ended one after another, then both ports. -/

namespace Sys2Proof.Requests

open Sys2Proof.Machine Sys2Proof.Statement

section WithdrawnPort

variable {x : PortState} {l : List SlotNo} {i j : SlotNo}

/-! ## One more slot ended at a port -/

theorem versionIn_append_of_mem (h : j ∈ l) : versionIn x (l ++ [i]) j = versionIn x l j := by
  rw [versionIn, List.idxOf_append, if_pos h, versionIn]

theorem versionIn_append_self (h : i ∉ l) : versionIn x (l ++ [i]) i = x.version + BitVec.ofNat 16 (l.length + 1) := by
  rw [versionIn, List.idxOf_append, if_neg h, List.idxOf_cons_self, Nat.zero_add]

/-- A record of the queue once the slots of `l` have ended: a queued notice of one of them is changed in place. -/
def withdrawnRecord (x : PortState) (l : List SlotNo) (r : ResponseRecord) : ResponseRecord :=
  if r.slot ∈ l ∧ keepsNotice x r.slot = true then
    { r with final := true, disposition := .channelOff, missed := x.slots[r.slot].missed, version := versionIn x l r.slot }
  else r

/-- The records that the end of the slots of `l` appends. -/
def withdrawalRecords (x : PortState) (l : List SlotNo) : List ResponseRecord :=
  (l.filter fun i => !keepsNotice x i).map fun i =>
    { endRecord x.slots[i] i .channelOff with version := versionIn x l i }

theorem withdrawn_queue : (withdrawn x l).queue = x.queue.map (withdrawnRecord x l) ++ withdrawalRecords x l := rfl

theorem withdrawn_slot_of_notMem (h : i ∉ l) : (withdrawn x l).slots[i] = x.slots[i] := by simp [withdrawn, h]

@[simp] theorem withdrawnRecord_slot (r : ResponseRecord) : (withdrawnRecord x l r).slot = r.slot := by
  unfold withdrawnRecord
  split <;> rfl

theorem withdrawnRecord_append_of_ne {r : ResponseRecord} (h : r.slot ≠ i) :
    withdrawnRecord x (l ++ [i]) r = withdrawnRecord x l r := by
  have hm : r.slot ∈ l ++ [i] ↔ r.slot ∈ l := by simp [h]
  simp only [withdrawnRecord, hm]
  split
  · next hl => rw [versionIn_append_of_mem hl.1]
  · rfl

theorem withdrawnRecord_of_notMem {r : ResponseRecord} (h : r.slot ∉ l) : withdrawnRecord x l r = r :=
  if_neg fun hl => h hl.1

/-- The slots of the records that are appended are among those ended. -/
theorem slot_mem_of_mem_withdrawalRecords {r : ResponseRecord} (h : r ∈ withdrawalRecords x l) : r.slot ∈ l := by
  obtain ⟨j, hj, rfl⟩ := List.mem_map.1 h
  exact (List.mem_filter.1 hj).1

theorem withdrawalRecords_append (h : i ∉ l) :
    withdrawalRecords x (l ++ [i]) = withdrawalRecords x l ++
      if keepsNotice x i = true then []
      else [{ endRecord x.slots[i] i .channelOff with version := x.version + BitVec.ofNat 16 (l.length + 1) }] := by
  have hold : ∀ j ∈ l.filter fun i => !keepsNotice x i, versionIn x (l ++ [i]) j = versionIn x l j :=
    fun j hj => versionIn_append_of_mem (List.mem_filter.1 hj).1
  simp only [withdrawalRecords, List.filter_append, List.map_append]
  congr 1
  · exact List.map_congr_left fun j hj => by rw [hold j hj]
  · cases hk : keepsNotice x i <;> simp [hk, versionIn_append_self h]

theorem withdrawn_version_succ :
    (withdrawn x l).version + 1 = x.version + BitVec.ofNat 16 (l.length + 1) := by
  change x.version + BitVec.ofNat 16 l.length + 1 = _
  rw [BitVec.add_assoc, BitVec.ofNat_add]
  rfl

theorem withdrawn_append_slots :
    (withdrawn x l).slots.set i { x.slots[i] with state := .finished } = (withdrawn x (l ++ [i])).slots := by
  apply Vector.ext
  intro k hk
  by_cases hki : k = i.val
  · subst hki
    simp [withdrawn]
  · have hne : (⟨k, hk⟩ : SlotNo) ≠ i := fun he => hki (congrArg Fin.val he)
    simp [withdrawn, hne, Ne.symm hki]

/-- The queue of a slot with a queued notice: the notice is changed in place. -/
theorem withdrawn_append_queue_of_notice (h : i ∉ l) (hk : keepsNotice x i = true) :
    (withdrawn x l).queue.map (fun r => if r.slot = i then
      { r with final := true, disposition := .channelOff, missed := x.slots[i].missed,
               version := x.version + BitVec.ofNat 16 (l.length + 1) } else r) = (withdrawn x (l ++ [i])).queue := by
  simp only [withdrawn_queue, withdrawalRecords_append h, if_pos hk, List.append_nil, List.map_append, List.map_map]
  congr 1
  · refine List.map_congr_left fun r _ => ?_
    by_cases hr : r.slot = i
    · subst hr
      simp only [Function.comp, if_true, withdrawnRecord_of_notMem h]
      rw [withdrawnRecord, if_pos ⟨by simp, hk⟩, versionIn_append_self h]
    · simp only [Function.comp, withdrawnRecord_slot, if_neg hr, withdrawnRecord_append_of_ne hr]
  · refine (List.map_congr_left fun r hr => if_neg ?_).trans (List.map_id' _)
    exact fun he => h (he ▸ slot_mem_of_mem_withdrawalRecords hr)

/-- The queue of a slot without one: the final record is appended. -/
theorem withdrawn_append_queue_of_no_notice (h : i ∉ l) (hk : ¬ keepsNotice x i = true) :
    (withdrawn x l).queue
      ++ [{ endRecord x.slots[i] i .channelOff with version := x.version + BitVec.ofNat 16 (l.length + 1) }] =
    (withdrawn x (l ++ [i])).queue := by
  simp only [withdrawn_queue, withdrawalRecords_append h, if_neg hk, List.append_assoc]
  congr 1
  refine List.map_congr_left fun r _ => ?_
  by_cases hr : r.slot = i
  · have hrk : ¬ (r.slot ∈ l ++ [i] ∧ keepsNotice x r.slot = true) := fun hl => hk (hr ▸ hl.2)
    rw [withdrawnRecord_of_notMem (hr ▸ h), withdrawnRecord, if_neg hrk]
  · exact (withdrawnRecord_append_of_ne hr).symm

/-- The end of one more slot is the next step of the whole withdrawal. -/
theorem endedPort_withdrawn (h : i ∉ l) : endedPort (withdrawn x l) i .channelOff = withdrawn x (l ++ [i]) := by
  have hv : (withdrawn x (l ++ [i])).version = x.version + BitVec.ofNat 16 (l.length + 1) := by
    simp [withdrawn]
  have hrest : withdrawn x (l ++ [i]) = { withdrawn x l with
      version := (withdrawn x (l ++ [i])).version, slots := (withdrawn x (l ++ [i])).slots
      queue := (withdrawn x (l ++ [i])).queue } := rfl
  rw [hrest, hv, ← withdrawn_append_slots]
  simp only [endedPort, withdrawn_slot_of_notMem h]
  by_cases hk : keepsNotice x i = true
  · rw [if_pos (show x.slots[i].noticeQueued = true from hk), ← withdrawn_append_queue_of_notice h hk,
      ← withdrawn_version_succ]
    rfl
  · rw [if_neg (show ¬ x.slots[i].noticeQueued = true from hk), ← withdrawn_append_queue_of_no_notice h hk,
      ← withdrawn_version_succ]
    rfl

theorem withdrawn_nil : withdrawn x [] = x := by simp [withdrawn]

end WithdrawnPort

/-! ## The slots of one port ended in turn -/

section WithdrawnSlots

variable {s : State} {p : Port} {l : List SlotNo} {i : SlotNo}

/-- The due deadlines of the WATCH slots of a list. -/
def duesOf (s : State) (p : Port) (l : List SlotNo) : DeadlineItem → Bool
  | .watchDue q j => decide (q = p) && decide (j ∈ l) && decide ((s.slot p j).kind = .watch)
  | _ => false

/-- The state after the slots of a list have ended with CHANNEL_OFF in turn. -/
def withdrawnSlots (s : State) (p : Port) (l : List SlotNo) : State :=
  { s.setPort p (withdrawn (s.port p) l) with timebase := s.timebase.dropAll (duesOf s p l) }

theorem dropAll_dropAll (t : Timebase) (f g : DeadlineItem → Bool) :
    (t.dropAll f).dropAll g = t.dropAll fun d => f d || g d := by
  simp [Timebase.dropAll, List.filter_filter, Bool.and_comm]

theorem dropAll_none (t : Timebase) : (t.dropAll fun _ => false) = t := by
  have hkeep {α : Type} (l : List α) : l.filter (fun _ => !false) = l := List.filter_eq_self.2 fun _ _ => rfl
  rw [Timebase.dropAll, hkeep, hkeep]

@[simp] theorem withdrawnSlots_port : (withdrawnSlots s p l).port p = withdrawn (s.port p) l := by cases p <;> rfl

theorem withdrawnSlots_port_of_ne {q : Port} (h : q ≠ p) : (withdrawnSlots s p l).port q = s.port q := by
  rw [← State.port_setPort_of_ne s p q (withdrawn (s.port p) l) h]
  cases q <;> rfl

theorem withdrawnSlots_slot_of_notMem (h : i ∉ l) : (withdrawnSlots s p l).slot p i = s.slot p i := by
  rw [State.slot, withdrawnSlots_port, withdrawn_slot_of_notMem h, State.slot]

theorem withdrawnSlots_nil : withdrawnSlots s p [] = s := by
  have hd : duesOf s p [] = fun _ => false := by funext d; cases d <;> simp [duesOf]
  rw [withdrawnSlots, withdrawn_nil, hd, dropAll_none, State.setPort_port]

/-- The deadlines dropped with one more slot. -/
theorem duesOf_append :
    duesOf s p (l ++ [i]) =
      fun d => duesOf s p l d || (decide ((s.slot p i).kind = .watch) && decide (d = .watchDue p i)) := by
  funext d
  cases d with
  | watchDue q j =>
    by_cases hj : j = i
    · subst hj
      simp only [duesOf, List.mem_append, List.mem_singleton]
      grind
    · simp [duesOf, hj]
  | _ => simp [duesOf]

theorem endSlot_withdrawnSlots (h : i ∉ l) :
    (withdrawnSlots s p l).endSlot p i .channelOff = withdrawnSlots s p (l ++ [i]) := by
  rw [endSlot_eq, withdrawnSlots_slot_of_notMem h, withdrawnSlots_port, endedPort_withdrawn h, ← dropDeadline_eq]
  simp only [withdrawnSlots, duesOf_append]
  by_cases hk : (s.slot p i).kind = .watch
  · simp only [if_pos hk, decide_eq_true hk, Bool.true_and, State.dropDeadline, dropAll_dropAll]
    cases p <;> rfl
  · simp only [if_neg hk, decide_eq_false hk, Bool.false_and, Bool.or_false]
    cases p <;> rfl

/-- A request of the channel that CONFIGURE ends (R34). -/
def runsOn (ch : Channel) (y : Slot) : Bool := decide (y.channel = ch) && y.running

theorem withdrawSlot_eq (ch : Channel) (w : Waiter) :
    s.withdrawSlot ch w =
      if runsOn ch (s.slot w.port w.slot) = true then s.endSlot w.port w.slot .channelOff else s := by
  simp only [State.withdrawSlot, runsOn, Slot.running, Bool.and_eq_true, Bool.or_eq_true, decide_eq_true_eq]

/-- The slots of one port that run on the channel, in the order they are visited. -/
def runningOn (s : State) (ch : Channel) (p : Port) (l : List SlotNo) : List SlotNo :=
  l.filter fun i => runsOn ch (s.slot p i)

/-- One slot visited: it ends when it runs on the channel. -/
theorem withdrawSlot_withdrawnSlots (ch : Channel) (h : i ∉ l) :
    (withdrawnSlots s p (runningOn s ch p l)).withdrawSlot ch { port := p, slot := i } =
      withdrawnSlots s p (runningOn s ch p (l ++ [i])) := by
  have hi : i ∉ runningOn s ch p l := fun hm => h (List.mem_filter.1 hm).1
  have hon : runningOn s ch p (l ++ [i]) =
      runningOn s ch p l ++ if runsOn ch (s.slot p i) = true then [i] else [] := by
    simp only [runningOn, List.filter_append, List.filter_cons, List.filter_nil]
  rw [withdrawSlot_eq, withdrawnSlots_slot_of_notMem hi, hon]
  split
  · exact endSlot_withdrawnSlots hi
  · rw [List.append_nil]

/-- The slots still to be visited, after those of `visited`. -/
theorem withdraw_slots_after (ch : Channel) (l visited : List SlotNo) (hl : (visited ++ l).Nodup) :
    (l.map fun i => ({ port := p, slot := i } : Waiter)).foldl (fun t w => t.withdrawSlot ch w)
        (withdrawnSlots s p (runningOn s ch p visited)) =
      withdrawnSlots s p (runningOn s ch p (visited ++ l)) := by
  induction l generalizing visited with
  | nil => rw [List.append_nil]; rfl
  | cons i l ih =>
    have hi : i ∉ visited := fun hm => (List.nodup_append.1 hl).2.2 i hm i List.mem_cons_self rfl
    have hcons : visited ++ i :: l = (visited ++ [i]) ++ l := by rw [List.append_assoc]; rfl
    rw [hcons] at hl ⊢
    rw [List.map_cons, List.foldl_cons, withdrawSlot_withdrawnSlots ch hi, ih _ hl]

theorem withdraw_slots (ch : Channel) (hl : l.Nodup) :
    (l.map fun i => ({ port := p, slot := i } : Waiter)).foldl (fun t w => t.withdrawSlot ch w) s =
      withdrawnSlots s p (runningOn s ch p l) := by
  have h := withdraw_slots_after (s := s) (p := p) ch l [] hl
  rwa [show runningOn s ch p [] = [] from rfl, withdrawnSlots_nil] at h

/-- The due deadlines of the slots of both ports that run on the channel. -/
def duesOn (s : State) (ch : Channel) : DeadlineItem → Bool
  | .watchDue p j => runsOn ch (s.slot p j) && decide ((s.slot p j).kind = .watch)
  | _ => false

theorem duesOf_runningOn (s : State) (ch : Channel) :
    (fun d => duesOf s .a (runningOn s ch .a (List.finRange 12)) d
      || duesOf s .b (runningOn s ch .b (List.finRange 12)) d) = duesOn s ch := by
  funext d
  cases d with
  | watchDue p j => cases p <;> simp [duesOf, runningOn, duesOn]
  | _ => rfl

/-- The withdrawal of a channel: its entry leaves the list, and the slots of both ports end (R57). -/
theorem withdraw_eq (s : State) (ch : Channel) :
    s.withdraw ch = { s with
      pendingList := s.pendingList.filter fun e => decide (e.channel ≠ ch)
      portA := withdrawn s.portA (runningOn s ch .a (List.finRange 12))
      portB := withdrawn s.portB (runningOn s ch .b (List.finRange 12))
      timebase := s.timebase.dropAll (duesOn s ch) } := by
  simp only [State.withdraw, allWaiters, List.foldl_append, withdraw_slots ch (List.nodup_finRange 12)]
  rw [← duesOf_runningOn, ← dropAll_dropAll]
  rfl

end WithdrawnSlots

/-! ## CONFIGURE with enable OFF -/

section ConfigureOff

variable {s : State} {c : DataCycle} {ch : Channel}

theorem withdraw_stored (w : Word) : (stored s c w).withdraw ch = stored (s.withdraw ch) c w := by
  have hslot (t : State) (v : Waiter) : (stored t c w).withdrawSlot ch v = stored (t.withdrawSlot ch v) c w := by
    simp only [withdrawSlot_eq, slot_stored, endSlot_stored, ← apply_ite (stored · c w)]
  have hlist : ({ stored s c w with pendingList := s.pendingList.filter fun e => decide (e.channel ≠ ch) } : State) =
      stored { s with pendingList := s.pendingList.filter fun e => decide (e.channel ≠ ch) } c w := by
    obtain ⟨_ | _, sel, adv⟩ := c <;> rfl
  rw [State.withdraw, stored_pendingList, hlist, State.withdraw]
  exact List.foldl_hom (stored · c w) fun t v => hslot t v

/-- The channel turned OFF by an accepted CONFIGURE (R13). -/
def turnedOff (s : State) (ch : Channel) : State :=
  withChannel s ch { s.channels[ch] with enable := false, generation := s.channels[ch].generation + 1 }

theorem exec_configure_off (h : CommitReady s c) (hch : (s.port c.port).staging.channel.toNat = ch.val)
    (hh : (s.channel ch).holder = some c.port) (hb : (s.result ch).reserved = false)
    (hoff : (s.port c.port).staging.settings.getLsbD 0 = false) :
    exec (.configure c) s = .next (answered ((turnedOff s ch).withdraw ch) c 6 .accepted none) := by
  have hb' : ¬ (s.result ch).reserved = true := by simp [hb]
  have hoff' : ¬ settingsEnable (s.port c.port).staging.settings = true := by simpa [settingsEnable] using hoff
  simp only [exec_configure_eq h, State.decideConfigure, stored_staging, channelOf_eq_some hch, stored_channel, if_pos hh,
    stored_result, if_neg hb', if_neg hoff', setChannel_stored, withdraw_stored, concluded_accept_stored]
  rfl

/-- Settles O25: the three checks are those of every CONFIGURE; the effect is the withdrawal. -/
theorem configureOffWithdrawsTheChannel : Obligations.ConfigureOffWithdrawsTheChannel := by
  intro c s h hoff st result refused
  refine ⟨Claims.exec_configure_of_no_channel h, fun ch hch => ?_⟩
  intro ends ended dropped
  refine ⟨Claims.exec_configure_notHolder h hch, Claims.exec_configure_channelBusy h hch, fun hh hb => ?_⟩
  have hdropped : duesOn (turnedOff s ch) ch = dropped := by
    funext d
    cases d with
    | watchDue p j => cases p <;> rfl
    | _ => rfl
  change exec (.configure c) s = _
  rw [exec_configure_off h hch hh hb hoff, withdraw_eq, hdropped]
  rfl

end ConfigureOff

end Sys2Proof.Requests

/-! The submit status: the operations that a decision is made of leave it alone, and no decision reports NONE. -/

namespace Sys2Proof.Requests

open Sys2Proof.Machine Sys2Proof.Statement

section SubmitCount

variable (s : State) (p q : Port) (i : SlotNo)

/-! ## What leaves the submit count of a port alone -/

theorem submitCount_setPort {x : PortState} (h : x.submitCount = (s.port p).submitCount) :
    ((s.setPort p x).port q).submitCount = (s.port q).submitCount := by
  rw [State.port_setPort_eq]
  split
  · next hq => rw [h, hq]
  · rfl

@[simp] theorem submitCount_setSlot (y : Slot) :
    ((s.setSlot p i y).port q).submitCount = (s.port q).submitCount := submitCount_setPort s p q rfl

@[simp] theorem submitCount_appendRecord (r : ResponseRecord) :
    ((s.appendRecord p r).port q).submitCount = (s.port q).submitCount := submitCount_setPort s p q rfl

@[simp] theorem submitCount_changeRecord (f : ResponseRecord → ResponseRecord) :
    ((s.changeRecord p i f).port q).submitCount = (s.port q).submitCount := submitCount_setPort s p q rfl

@[simp] theorem submitCount_deliver (source : Source) (part : ResultPart) :
    ((s.deliver p i source part).port q).submitCount = (s.port q).submitCount := by
  simp only [State.deliver]
  split
  · simp
  · split <;> simp

theorem port_withPendingList (l : List PendingEntry) : ({ s with pendingList := l } : State).port q = s.port q := by
  cases q <;> rfl

@[simp] theorem submitCount_requestConversion :
    ((s.requestConversion p i).port q).submitCount = (s.port q).submitCount := by
  simp only [State.requestConversion]
  split
  · exact submitCount_deliver ..
  · rw [port_withPendingList, submitCount_setSlot]

@[simp] theorem submitCount_endSlot (d : Disposition) :
    ((s.endSlot p i d).port q).submitCount = (s.port q).submitCount := by
  simp only [State.endSlot]
  split <;> split <;> simp

@[simp] theorem port_removeWaiters (chosen : Waiter → Bool) : (s.removeWaiters chosen).port q = s.port q := by
  cases q <;> rfl

@[simp] theorem submitCount_withdraw (ch : Channel) :
    ((s.withdraw ch).port q).submitCount = (s.port q).submitCount := by
  rw [withdraw_eq]
  cases q <;> rfl

@[simp] theorem port_quietOnset : s.quietOnset.port q = s.port q := by
  cases q <;> simp [State.port]

@[simp] theorem port_quietEnds : s.quietEnds.port q = s.port q := by
  cases q <;> simp [State.port]

@[simp] theorem submitCount_openQuiet (t : Stamp) :
    ((s.openQuiet p t).port q).submitCount = (s.port q).submitCount := by
  simp only [State.openQuiet]
  split <;> simp [submitCount_setPort]

@[simp] theorem submitCount_closeQuiet : ((s.closeQuiet p).port q).submitCount = (s.port q).submitCount := by
  simp only [State.closeQuiet]
  split
  · split <;> simp [submitCount_setPort]
  · rfl

end SubmitCount

/-! ## Decisions -/

section Decisions

variable {s t : State} {p : Port}

/-- What a commit decides leaves the count to the report, and its code is that of an outcome (R19, R21). -/
def IsOutcome (s : State) (p : Port) (d : Decision) : Prop :=
  d.code ≠ .none ∧ (d.state.port p).submitCount = (s.port p).submitCount

theorem isOutcome_refuse {code : SubmitCode} (h : code ≠ .none) : IsOutcome s p (s.refuse code) := ⟨h, rfl⟩

theorem isOutcome_accept (h : (t.port p).submitCount = (s.port p).submitCount) : IsOutcome s p t.accept := ⟨nofun, h⟩

theorem isOutcome_acceptSlot (h : (t.port p).submitCount = (s.port p).submitCount) (i : SlotNo) :
    IsOutcome s p (t.acceptSlot i) := ⟨nofun, h⟩

variable (s p)

theorem isOutcome_decideConvert : IsOutcome s p (s.decideConvert p) := by
  unfold State.decideConvert
  split
  · exact isOutcome_refuse nofun
  · split
    · split
      · exact isOutcome_refuse nofun
      · exact isOutcome_acceptSlot (by simp) _
    · exact isOutcome_refuse nofun

theorem isOutcome_decideWatch : IsOutcome s p (s.decideWatch p) := by
  unfold State.decideWatch
  split
  · exact isOutcome_refuse nofun
  · split
    · split
      · split
        · exact isOutcome_refuse nofun
        · exact isOutcome_acceptSlot (by simp) _
      · exact isOutcome_refuse nofun
    · exact isOutcome_refuse nofun

theorem isOutcome_decideCancel : IsOutcome s p (s.decideCancel p) := by
  unfold State.decideCancel
  split
  · exact isOutcome_refuse nofun
  · split
    · exact isOutcome_acceptSlot (by simp) _
    · exact isOutcome_acceptSlot (by simp) _
    · exact isOutcome_refuse nofun
    · exact isOutcome_refuse nofun

theorem isOutcome_decideClaim : IsOutcome s p (s.decideClaim p) := by
  unfold State.decideClaim
  split
  · exact isOutcome_refuse nofun
  · split
    · split
      · exact isOutcome_refuse nofun
      · exact isOutcome_accept (by simp)
    · exact isOutcome_refuse nofun

theorem isOutcome_decideRelease : IsOutcome s p (s.decideRelease p) := by
  unfold State.decideRelease
  split
  · exact isOutcome_refuse nofun
  · split
    · exact isOutcome_accept (by simp)
    · exact isOutcome_refuse nofun

theorem isOutcome_decideConfigure : IsOutcome s p (s.decideConfigure p) := by
  unfold State.decideConfigure
  split
  · exact isOutcome_refuse nofun
  · split
    · split
      · exact isOutcome_refuse nofun
      · split
        · split
          · exact isOutcome_refuse nofun
          · split
            · exact isOutcome_refuse nofun
            · exact isOutcome_accept (by simp)
        · exact isOutcome_accept (by simp)
    · exact isOutcome_refuse nofun

theorem isOutcome_decideQuiet : IsOutcome s p (s.decideQuiet p) := by
  unfold State.decideQuiet
  split
  · split
    · exact isOutcome_accept (by simp)
    · exact isOutcome_accept (by simp)
  · exact isOutcome_refuse nofun

theorem isOutcome_decideCommit : IsOutcome s p (s.decideCommit p) := by
  unfold State.decideCommit
  split
  · exact isOutcome_refuse nofun
  · split
    · exact isOutcome_decideConvert s p
    · exact isOutcome_decideWatch s p
    · exact isOutcome_decideCancel s p
    · exact isOutcome_decideClaim s p
    · exact isOutcome_decideRelease s p
    · exact isOutcome_decideConfigure s p
    · exact isOutcome_decideQuiet s p
    · exact isOutcome_refuse nofun

end Decisions

/-! ## The submit status after resets and after commits -/

section SubmitStatus

variable (s : State) (p : Port)

theorem resetPort_port (pin : Level) : (s.resetPort p pin).port p = PortState.reset pin := by
  simp only [State.resetPort]
  split <;> simp

theorem resetDevice_port (cause : ResetCause) : (s.resetDevice cause).port p = PortState.reset (s.port p).rstN := by
  cases p <;> rfl

theorem concluded_port (d : Decision) (c : DataCycle) :
    ((concluded d c).port c.port).submitCode = d.code
      ∧ ((concluded d c).port c.port).submitCount = (d.state.port c.port).submitCount + 1 := by
  simp [concluded, afterWrite]

/-- A DATA write at 010h is a commit: it reports an outcome and counts it (R19, R21). -/
theorem exec_stagingWrite_reports {c : DataCycle} (w : Word) (hc : c.selected = true) (ho : Open s c.port)
    (hw : (s.port c.port).writePtr = 0x010) :
    ∃ t, exec (.stagingWrite c w) s = .next t ∧ (t.port c.port).submitCode ≠ .none
      ∧ (t.port c.port).submitCount = (s.port c.port).submitCount + 1 := by
  obtain ⟨hcode, hcount⟩ := isOutcome_decideCommit (stored s c w) c.port
  obtain ⟨hcode', hcount'⟩ := concluded_port ((stored s c w).decideCommit c.port) c
  rw [stored_port] at hcount
  exact ⟨_, congrArg Host.Outcome.next (dataWrite_commit s c w hc ho hw), hcode' ▸ hcode,
    hcount'.trans (congrArg (· + 1) hcount)⟩

/-- Settles O19, from the reset values of a port and from what a commit reports. -/
theorem noneIsTheCodeOfNoCommit : Obligations.NoneIsTheCodeOfNoCommit := by
  intro p s
  refine ⟨⟨_, rfl, ?_⟩, fun cause => ⟨_, rfl, ?_⟩, ?_⟩
  · rw [resetPort_port]
    exact ⟨rfl, rfl, rfl⟩
  · rw [resetDevice_port]
    exact ⟨rfl, rfl, rfl⟩
  · rintro c w rfl hc ho hw
    obtain ⟨t, ht, hcode, hcount⟩ := exec_stagingWrite_reports s w hc ho hw
    exact ⟨t, ht, hcode, hcount, fun h0 => by rw [hcount, h0]; rfl⟩

end SubmitStatus

end Sys2Proof.Requests

/-! Proofs of the family `04_results_and_response_queues.md`. First one delivery to one slot: as the statement on deliveries
words it, and as one operation on the port, which the deliveries of a completion repeat. -/

namespace Sys2Proof.Responses

open Sys2Proof.Machine Sys2Proof.Statement Sys2Proof.Requests

section Delivery

variable (s : State) (p : Port) (i : SlotNo) (x : PortState) (source : Source) (part : ResultPart)

theorem setSlot_slot_self : s.setSlot p i (s.slot p i) = s := by
  have hslots : (s.port p).slots.set i (s.port p).slots[i] = (s.port p).slots := Vector.set_getElem_self ..
  rw [State.setSlot, State.slot, hslots]
  exact State.setPort_port s p

/-- Settles O33: the three forms of a delivery, at the slot as it stands. -/
theorem deliveryAppendsOrUpdates : Obligations.DeliveryAppendsOrUpdates := by
  intro s p i source part x y
  have hself : s.setSlot p i y = s := setSlot_slot_self s p i
  refine ⟨fun hk => ?_, fun hk hn => ?_, fun hk hn => ?_⟩
  · have h := deliver_convert s p i y source part hk
    rwa [hself] at h
  · have h := deliver_new_notice s p i y source part hk hn
    rwa [hself] at h
  · have h := deliver_queued_notice s p i y source part hk hn
    have hy : ({ y with state := .dormant, noticeQueued := true } : Slot) = { y with state := .dormant } := by rw [← hn]
    rwa [hself, hy] at h

/-! ## A delivery as one operation on the port -/

/-- A delivery to the slot changes its queued notice in place (R77). -/
def updatesNotice (x : PortState) (i : SlotNo) : Bool := decide (x.slots[i].kind = .watch) && x.slots[i].noticeQueued

/-- What a delivery makes of a slot. -/
def servedSlot (y : Slot) : Slot :=
  match y.kind with
  | .convert => { y with state := .finished }
  | .watch => { y with state := .dormant, noticeQueued := true }

/-- What a delivery to a slot makes of its queued notice, but for the version. -/
def servedNotice (y : Slot) (part : ResultPart) (r : ResponseRecord) : ResponseRecord :=
  { r with source := .conversion, part := some part, missed := y.missed, coalesced := oneMore r.coalesced }

/-- The record that a delivery appends for a slot, but for the version. -/
def servedRecord (y : Slot) (i : SlotNo) (part : ResultPart) : ResponseRecord :=
  resultRecord y i (decide (y.kind = .convert)) .conversion (if y.kind = .convert then 0 else y.missed) part

/-- A port after one conversion's result has been delivered to one slot. -/
def servedPort (x : PortState) (i : SlotNo) (part : ResultPart) : PortState :=
  let x1 := withSlot x i (servedSlot x.slots[i])
  if updatesNotice x i = true then changed x1 i (servedNotice x.slots[i] part)
  else appended x1 (servedRecord x.slots[i] i part)

variable {i x part}

theorem servedPort_of_update (h : updatesNotice x i = true) :
    servedPort x i part = changed (withSlot x i (servedSlot x.slots[i])) i (servedNotice x.slots[i] part) := if_pos h

theorem servedPort_of_append (h : updatesNotice x i = false) :
    servedPort x i part = appended (withSlot x i (servedSlot x.slots[i])) (servedRecord x.slots[i] i part) :=
  if_neg (Bool.eq_false_iff.1 h)

theorem servedSlot_convert {y : Slot} (hk : y.kind = .convert) : servedSlot y = { y with state := .finished } := by
  cases y; cases hk; rfl

theorem servedSlot_watch {y : Slot} (hk : y.kind = .watch) :
    servedSlot y = { y with state := .dormant, noticeQueued := true } := by
  cases y; cases hk; rfl

theorem servedRecord_convert {y : Slot} (hk : y.kind = .convert) :
    servedRecord y i part = resultRecord y i true .conversion 0 part := by simp [servedRecord, hk]

theorem servedRecord_watch {y : Slot} (hk : y.kind = .watch) :
    servedRecord y i part = resultRecord y i false .conversion y.missed part := by simp [servedRecord, hk]

theorem deliver_eq_servedPort :
    s.deliver p i .conversion part = s.setPort p (servedPort (s.port p) i part) := by
  obtain ⟨hconvert, hnew, hqueued⟩ := deliveryAppendsOrUpdates s p i .conversion part
  cases hk : (s.port p).slots[i].kind with
  | convert =>
    have hu : updatesNotice (s.port p) i = false := by simp only [updatesNotice, hk]; rfl
    rw [hconvert hk, servedPort_of_append hu, servedSlot_convert hk, servedRecord_convert hk]
  | watch =>
    have hu : updatesNotice (s.port p) i = (s.port p).slots[i].noticeQueued := by simp only [updatesNotice, hk]; rfl
    cases hn : (s.port p).slots[i].noticeQueued with
    | false => rw [hnew hk hn, servedPort_of_append (hu.trans hn), servedSlot_watch hk, servedRecord_watch hk]
    | true =>
      rw [hqueued hk hn, servedPort_of_update (hu.trans hn), servedSlot_watch hk, ← hn]
      rfl

end Delivery

end Sys2Proof.Responses

/-! ACKNOWLEDGEMENT: what it makes of the port, then of the whole cycle. -/

namespace Sys2Proof.Responses

open Sys2Proof.Machine Sys2Proof.Statement

section Acknowledgement

variable {s : State} {p : Port} {v : Word} {r : ResponseRecord} {rest : List ResponseRecord}

/-- The port with ACK_STALE set (R80). -/
def stale (x : PortState) : PortState := { x with flags := { x.flags with ackStale := true } }

theorem raise_ackStale (h : Open s p) : s.raise p .ackStale = s.setPort p (stale (s.port p)) := by
  rw [raise_eq_flagged, flagged]
  exact if_pos h

theorem acknowledge_empty (h : Open s p) (hq : (s.port p).queue = []) :
    s.acknowledge p v = s.setPort p (stale (s.port p)) := by
  rw [State.acknowledge, hq]
  exact raise_ackStale h

theorem acknowledge_other_version (h : Open s p) (hq : (s.port p).queue = r :: rest) (hv : r.version ≠ v) :
    s.acknowledge p v = s.setPort p (stale (s.port p)) := by
  rw [State.acknowledge, hq]
  exact (if_neg hv).trans (raise_ackStale h)

theorem acknowledge_head (hq : (s.port p).queue = r :: rest) (hv : r.version = v) :
    s.acknowledge p v = s.setPort p { s.port p with
      queue := rest, slots := (s.port p).slots.set r.slot (acknowledgedSlot r (s.port p).slots[r.slot]) } := by
  rw [State.acknowledge, hq]
  simp only [if_pos hv, State.setSlot, State.slot, State.port_setPort, State.setPort_setPort]

theorem acknowledgedSlot_final (hf : r.final = true) (y : Slot) : acknowledgedSlot r y = freeSlotValues := if_pos hf

theorem acknowledgedSlot_notice (hf : r.final = false) (y : Slot) :
    acknowledgedSlot r y = { y with noticeQueued := false, missed := 0 } := if_neg (Bool.eq_false_iff.1 hf)

/-- A DATA write at 02Fh acknowledges and ends as every DATA write does (R149, R154). -/
theorem exec_acknowledgement_of {c : DataCycle} {x : PortState} (hc : c.selected = true) (ho : Open s c.port)
    (hw : (s.port c.port).writePtr = 0x02F) (h : s.acknowledge c.port v = s.setPort c.port x) :
    exec (.acknowledgement c v) s = .next (s.setPort c.port (afterWrite x c.advance)) := by
  have htarget : windowTarget 0x02F = .ackWord := by decide
  change Host.Outcome.next (s.dataWrite c v) = _
  simp only [dataWrite_of_Open s c v hc ho, hw, State.storeAt, htarget, h, State.port_setPort, State.setPort_setPort]

/-- Settles O32: the queue and its head's version decide, and the cycle ends alike in every case. -/
theorem acknowledgementRemovesTheHead : Obligations.AcknowledgementRemovesTheHead := by
  intro c v s hc ho hw
  have hexec {x : PortState} := exec_acknowledgement_of (v := v) (x := x) hc ho hw
  refine ⟨fun hq => hexec (acknowledge_empty ho hq), fun r rest hq => ⟨fun hv => ?_, fun hv hf => ?_, fun hv hf => ?_⟩⟩
  · exact hexec (acknowledge_other_version ho hq hv)
  · exact hexec (by rw [acknowledge_head hq hv, acknowledgedSlot_final hf])
  · exact hexec (by rw [acknowledge_head hq hv, acknowledgedSlot_notice hf])

end Acknowledgement

end Sys2Proof.Responses

/-! COMPLETION: the deliveries of one port in turn come to `delivered`, then those of both ports, then the whole event. -/

namespace Sys2Proof.Responses

open Sys2Proof.Machine Sys2Proof.Statement Sys2Proof.Requests

section DeliveredPort

variable (x : PortState) (part : ResultPart) {l l' : List SlotNo} {i : SlotNo}

/-! ## The queue of a port after a list of deliveries -/

/-- A record of the queue after the deliveries: a queued notice of one of the slots is changed in place. -/
def deliveredRecord (l : List SlotNo) (r : ResponseRecord) : ResponseRecord :=
  if r.slot ∈ l ∧ updatesNotice x r.slot = true then
    { servedNotice x.slots[r.slot] part r with version := versionIn x l r.slot }
  else r

/-- The records that the deliveries append. -/
def deliveryRecords (l : List SlotNo) : List ResponseRecord :=
  (l.filter fun i => !updatesNotice x i).map fun i =>
    { servedRecord x.slots[i] i part with version := versionIn x l i }

theorem delivered_queue :
    (delivered x l part).queue = x.queue.map (deliveredRecord x part l) ++ deliveryRecords x part l := rfl

theorem delivered_slots :
    (delivered x l part).slots = Vector.ofFn fun i => if i ∈ l then servedSlot x.slots[i] else x.slots[i] := rfl

theorem delivered_version : (delivered x l part).version = x.version + BitVec.ofNat 16 l.length := rfl

/-- Two ports are one when they can differ in the version counter, the slots and the queue alone, and agree in these. -/
theorem port_eq_of_parts {y z : PortState} (hy : y = { z with version := y.version, slots := y.slots, queue := y.queue })
    (hversion : y.version = z.version) (hslots : y.slots = z.slots) (hqueue : y.queue = z.queue) : y = z := by
  rw [hy, hversion, hslots, hqueue]

theorem delivered_nil : delivered x [] part = x := by simp [delivered]

theorem delivered_slot (i : SlotNo) :
    (delivered x l part).slots[i] = if i ∈ l then servedSlot x.slots[i] else x.slots[i] := by simp [delivered_slots]

theorem delivered_slot_of_notMem (h : i ∉ l) : (delivered x l part).slots[i] = x.slots[i] :=
  (delivered_slot x part i).trans (if_neg h)

theorem updatesNotice_delivered (h : i ∉ l) : updatesNotice (delivered x l part) i = updatesNotice x i := by
  rw [updatesNotice, delivered_slot_of_notMem x part h, updatesNotice]

/-- A slot of the later deliveries counts its version on from the earlier ones (R74). -/
theorem versionIn_delivered (h : i ∉ l) : versionIn (delivered x l part) l' i = versionIn x (l ++ l') i := by
  rw [versionIn, versionIn, List.idxOf_append, if_neg h, delivered_version, BitVec.add_assoc, ← BitVec.ofNat_add]
  congr 2
  omega

theorem versionIn_append (h : i ∈ l) : versionIn x (l ++ l') i = versionIn x l i := by
  rw [versionIn, List.idxOf_append, if_pos h, versionIn]

@[simp] theorem deliveredRecord_slot (r : ResponseRecord) : (deliveredRecord x part l r).slot = r.slot := by
  unfold deliveredRecord
  split <;> rfl

theorem deliveredRecord_of_notMem {r : ResponseRecord} (h : r.slot ∉ l) : deliveredRecord x part l r = r :=
  if_neg fun hl => h hl.1

theorem slot_mem_of_mem_deliveryRecords {r : ResponseRecord} (h : r ∈ deliveryRecords x part l) : r.slot ∈ l := by
  obtain ⟨j, hj, rfl⟩ := List.mem_map.1 h
  exact (List.mem_filter.1 hj).1

/-! ## Deliveries after deliveries -/

theorem deliveredRecord_deliveredRecord (h : ∀ i ∈ l', i ∉ l) (r : ResponseRecord) :
    deliveredRecord (delivered x l part) part l' (deliveredRecord x part l r) = deliveredRecord x part (l ++ l') r := by
  by_cases hr : r.slot ∈ l
  · have hr' : r.slot ∉ l' := fun hm => h _ hm hr
    rw [deliveredRecord_of_notMem _ _ (by rwa [deliveredRecord_slot])]
    simp only [deliveredRecord, List.mem_append, hr, true_or, versionIn_append x hr]
  · rw [deliveredRecord_of_notMem x part hr]
    simp only [deliveredRecord, List.mem_append, hr, false_or, updatesNotice_delivered x part hr,
      delivered_slot_of_notMem x part hr, versionIn_delivered x part hr]

theorem deliveryRecords_append (h : ∀ i ∈ l', i ∉ l) :
    deliveryRecords x part (l ++ l') = deliveryRecords x part l ++ deliveryRecords (delivered x l part) part l' := by
  have hfilter : (l'.filter fun i => !updatesNotice (delivered x l part) i) = l'.filter fun i => !updatesNotice x i :=
    List.filter_congr fun i hi => by rw [updatesNotice_delivered x part (h i hi)]
  simp only [deliveryRecords, List.filter_append, List.map_append, hfilter]
  congr 1
  · exact List.map_congr_left fun i hi => by rw [versionIn_append x (List.mem_filter.1 hi).1]
  · refine List.map_congr_left fun i hi => ?_
    have hi' := h i (List.mem_filter.1 hi).1
    rw [delivered_slot_of_notMem x part hi', versionIn_delivered x part hi']

/-- Deliveries to further slots continue those before them. -/
theorem delivered_delivered (h : ∀ i ∈ l', i ∉ l) :
    delivered (delivered x l part) l' part = delivered x (l ++ l') part := by
  refine port_eq_of_parts rfl ?_ ?_ ?_
  · simp only [delivered_version, List.length_append, BitVec.ofNat_add, BitVec.add_assoc]
  · rw [delivered_slots (delivered x l part), delivered_slots x part (l := l ++ l')]
    congr 1
    funext i
    rw [delivered_slot]
    by_cases hi : i ∈ l
    · have hi' : i ∉ l' := fun hm => h i hm hi
      simp [hi, hi']
    · simp [hi]
  · have hnew : (deliveryRecords x part l).map (deliveredRecord (delivered x l part) part l') = deliveryRecords x part l :=
      (List.map_congr_left fun r hr => deliveredRecord_of_notMem _ _
        fun hm => h _ hm (slot_mem_of_mem_deliveryRecords x part hr)).trans (List.map_id' _)
    rw [delivered_queue, delivered_queue, delivered_queue, deliveryRecords_append x part h, List.map_append, hnew,
      List.map_map, List.append_assoc]
    congr 1
    exact List.map_congr_left fun r _ => deliveredRecord_deliveredRecord x part h r

/-- One delivery is the list of its one slot. -/
theorem servedPort_eq_delivered : servedPort x i part = delivered x [i] part := by
  have hversion : versionIn x [i] i = x.version + 1 := by simp [versionIn]
  have hslots : x.slots.set i (servedSlot x.slots[i]) = (delivered x [i] part).slots := by
    apply Vector.ext
    intro k hk
    by_cases hki : k = i.val
    · subst hki
      simp [delivered_slots]
    · have hne : (⟨k, hk⟩ : SlotNo) ≠ i := fun he => hki (congrArg Fin.val he)
      simp [delivered_slots, hne, Ne.symm hki]
  cases hu : updatesNotice x i with
  | true =>
    rw [servedPort_of_update hu]
    refine port_eq_of_parts rfl rfl hslots ?_
    have hnone : deliveryRecords x part [i] = [] := by simp [deliveryRecords, hu]
    rw [delivered_queue, hnone, List.append_nil]
    refine List.map_congr_left fun r _ => ?_
    by_cases hr : r.slot = i
    · subst hr
      rw [deliveredRecord, if_pos rfl, if_pos ⟨List.mem_singleton_self _, hu⟩, hversion]
      rfl
    · rw [deliveredRecord_of_notMem x part (by simpa using hr), if_neg hr]
  | false =>
    rw [servedPort_of_append hu]
    refine port_eq_of_parts rfl rfl hslots ?_
    have hkept : x.queue.map (deliveredRecord x part [i]) = x.queue := by
      refine (List.map_congr_left fun r _ => if_neg fun hr => ?_).trans (List.map_id' _)
      rw [List.mem_singleton.1 hr.1, hu] at hr
      exact Bool.false_ne_true hr.2
    have hone : deliveryRecords x part [i] = [{ servedRecord x.slots[i] i part with version := x.version + 1 }] := by
      simp [deliveryRecords, hu, hversion]
    rw [delivered_queue, hkept, hone]
    rfl

end DeliveredPort

/-! ## The deliveries of a completion -/

section DeliverAll

variable (part : ResultPart)

theorem deliver_slots (s : State) (p : Port) {l : List SlotNo} (hl : l.Nodup) :
    (l.map fun i => ({ port := p, slot := i } : Waiter)).foldl (fun t w => t.deliver w.port w.slot .conversion part) s =
      s.setPort p (delivered (s.port p) l part) := by
  induction l generalizing s with
  | nil => rw [delivered_nil, State.setPort_port]; rfl
  | cons i l ih =>
    obtain ⟨hi, hl⟩ := List.nodup_cons.1 hl
    have hdisjoint : ∀ j ∈ l, j ∉ [i] := fun j hj he => hi (List.mem_singleton.1 he ▸ hj)
    rw [List.map_cons, List.foldl_cons, ih _ hl, deliver_eq_servedPort, servedPort_eq_delivered, State.port_setPort,
      State.setPort_setPort, delivered_delivered _ _ hdisjoint]
    rfl

theorem waitersOf_nodup (p : Port) (ws : List Waiter) : (waitersOf p ws).Nodup := (List.nodup_finRange 12).filter _

/-- The waiters of a set in the order of their deliveries: port A's, then port B's (R53). -/
theorem allWaiters_filter (ws : List Waiter) :
    (allWaiters.filter fun w => decide (w ∈ ws)) =
      (waitersOf .a ws).map (fun i => { port := .a, slot := i }) ++
        (waitersOf .b ws).map fun i => { port := .b, slot := i } := by
  simp only [allWaiters, waitersOf, List.filter_append, List.filter_map]
  rfl

theorem deliverAll_eq (s : State) (ws : List Waiter) :
    s.deliverAll ws part = { s with
      portA := delivered s.portA (waitersOf .a ws) part, portB := delivered s.portB (waitersOf .b ws) part } := by
  rw [State.deliverAll, allWaiters_filter, List.foldl_append, deliver_slots part _ _ (waitersOf_nodup ..),
    deliver_slots part _ _ (waitersOf_nodup ..)]
  rfl

end DeliverAll

/-! ## COMPLETION -/

section Completion

variable {s : State} {ch : Channel} {before after : List ConversionRecord} {r : ConversionRecord} {o : ConversionOutcome}

theorem isBus_iff (status : Status) :
    status.isBus = true ↔ status = .busLost ∨ status = .busHoldTimeout ∨ status = .busStuck := by
  cases status <;> simp [Status.isBus]

theorem raise_busFault (s : State) (p : Port) :
    s.raise p .busFault = flagged s p fun f => { f with busFault := true } := raise_eq_flagged s p .busFault

/-- The first record of a channel is the one that its completion finds, and the one that leaves (R52). -/
theorem inFlight_of_first (h : s.inFlight = before ++ r :: after) (hr : r.channel = ch)
    (hb : ∀ q ∈ before, q.channel ≠ ch) :
    s.inFlight.find? (fun q => decide (q.channel = ch)) = some r
      ∧ s.inFlight.eraseP (fun q => decide (q.channel = ch)) = before ++ after := by
  have hnone : ∀ q ∈ before, ¬ decide (q.channel = ch) = true := fun q hq => by simpa using hb q hq
  rw [h]
  constructor
  · rw [List.find?_append, List.find?_eq_none.2 hnone, List.find?_cons_of_pos (by simpa using hr)]
    rfl
  · rw [List.eraseP_append_right _ hnone, List.eraseP_cons_of_pos (by simpa using hr)]

/-- The state after a completion but for BUS_FAULT: the record gone, the entry written, every waiter served (R52, R68). -/
def completed (s : State) (ch : Channel) (rest : List ConversionRecord) (r : ConversionRecord) (o : ConversionOutcome) :
    State :=
  let part := completedPart s.results[ch].part r o s.timebase.tick
  { s with
    inFlight := rest
    results := s.results.set ch { valid := true, reserved := false, part := part }
    portA := delivered s.portA (waitersOf .a r.waiters) part
    portB := delivered s.portB (waitersOf .b r.waiters) part }

theorem complete_eq (h : s.inFlight = before ++ r :: after) (hr : r.channel = ch) (hb : ∀ q ∈ before, q.channel ≠ ch)
    (ho : r.outcome = some o) :
    let t := completed s ch (before ++ after) r o
    s.complete ch = if o.status.isBus = true then (t.raise .a .busFault).raise .b .busFault else t := by
  obtain ⟨hfind, herase⟩ := inFlight_of_first h hr hb
  simp only [State.complete, hfind, ho, herase, deliverAll_eq]
  rfl

/-- Settles O39: the completion as one state, with BUS_FAULT raised on it or not. -/
theorem completionWritesAndDelivers : Obligations.CompletionWritesAndDelivers := by
  intro s ch before after r o h hr hb ho part t
  have hexec : exec (.completion ch) s = .next (s.complete ch) := rfl
  have ht : completed s ch (before ++ after) r o = t := rfl
  rw [hexec, complete_eq h hr hb ho, ht]
  refine ⟨fun hbus => ?_, fun hlost hhold hstuck => ?_⟩
  · rw [if_pos ((isBus_iff _).2 hbus), raise_busFault, raise_busFault]
  · rw [if_neg fun hbus => ?_]
    rcases (isBus_iff _).1 hbus with hst | hst | hst
    · exact hlost hst
    · exact hhold hst
    · exact hstuck hst

end Completion

end Sys2Proof.Responses

/-! Proofs of the family `05_the_ratio_unit.md`: the six steps form Q, Q stays in its bound, the value follows from Q, and
the outcome of a job is assembled from these. -/

namespace Sys2Proof.Division

open Sys2Proof.Machine Sys2Proof.Statement

section Quotient

variable {n : Nat}

/-! ## Q, digit by digit (R90) -/

theorem remainder_eq_mod (n a : Nat) : a - a / n * n = a % n := Nat.mod_eq_sub_div_mul.symm

/-- A digit and its remainder carry the whole dividend: scaling both by `c` scales the quotient's dividend by `c`. -/
theorem scaled_digit_add_remainder (hn : 0 < n) (c a : Nat) : c * (a / n) + c * (a % n) / n = c * a / n := by
  calc c * (a / n) + c * (a % n) / n
      = (c * (a % n) + n * (c * (a / n))) / n := by rw [Nat.add_mul_div_left _ _ hn, Nat.add_comm]
    _ = c * (a % n + n * (a / n)) / n := by rw [Nat.mul_add, Nat.mul_left_comm]
    _ = c * a / n := by rw [Nat.mod_add_div]

/-- What `k` more steps make of a partial remainder and the quotient so far: three more bits per step. -/
theorem quotientSteps_eq (hn : 0 < n) (k rem q : Nat) (hrem : rem < n) :
    quotientSteps n k rem q = 8 ^ k * q + 8 ^ k * rem / n := by
  induction k generalizing rem q with
  | zero => simp [quotientSteps, Nat.div_eq_of_lt hrem]
  | succ k ih =>
    calc quotientSteps n (k + 1) rem q
        = quotientSteps n k (8 * rem % n) (8 * q + 8 * rem / n) := by rw [quotientSteps, remainder_eq_mod]
      _ = 8 ^ k * (8 * q + 8 * rem / n) + 8 ^ k * (8 * rem % n) / n := ih _ _ (Nat.mod_lt _ hn)
      _ = 8 ^ k * (8 * q) + 8 ^ k * (8 * rem) / n := by
        rw [Nat.mul_add, Nat.add_assoc, scaled_digit_add_remainder hn]
      _ = 8 ^ (k + 1) * q + 8 ^ (k + 1) * rem / n := by rw [Nat.pow_succ, Nat.mul_assoc, Nat.mul_assoc]

/-- Q is the floor of M × 32768 / N: step 1 leaves a remainder below N, and 32768 is 8 to the fifth power. -/
theorem quotient_eq (hn : 0 < n) (m : Nat) : quotient m n = m * 32768 / n := by
  rw [quotient, remainder_eq_mod, quotientSteps_eq hn _ _ _ (Nat.mod_lt m hn), scaled_digit_add_remainder hn,
    Nat.mul_comm (8 ^ 5), show 8 ^ 5 = 32768 from rfl]

/-- Past the range check, Q of a 16-bit count is at most 131070. -/
theorem quotient_le (hn : 0 < n) {m : Nat} (hm : m < 65536) (hrange : m < 4 * n) : quotient m n ≤ 131070 := by
  rw [quotient_eq hn, ← Nat.lt_succ_iff, Nat.div_lt_iff_lt_mul hn]
  omega

end Quotient

section Value

variable {q : Nat}

/-! ## The ratio value (R91) -/

/-- With Q in its bound, neither form of the value leaves its 16 bits. -/
theorem ratioValue_toNat (hq : q ≤ 131070) (round : Bool) :
    (ratioValue round q).toNat = if round then (q + 1) / 2 else q / 2 := by
  rw [ratioValue, BitVec.toNat_ofNat, Nat.mod_eq_of_lt]
  split <;> omega

theorem ratioValue_floor_toNat (hq : q ≤ 131070) : (ratioValue false q).toNat = q / 2 := ratioValue_toNat hq false

theorem ratioValue_rounded_toNat (hq : q ≤ 131070) : (ratioValue true q).toNat = (q + 1) / 2 :=
  ratioValue_toNat hq true

/-- Rounding changes nothing exactly when the bit of Q that is dropped is 0. -/
theorem ratioValue_rounded_eq_iff (hq : q ≤ 131070) : ratioValue true q = ratioValue false q ↔ q % 2 = 0 := by
  rw [← BitVec.toNat_inj, ratioValue_rounded_toNat hq, ratioValue_floor_toNat hq]
  omega

theorem ratioValue_rounded_eq_or_succ (hq : q ≤ 131070) :
    ratioValue true q = ratioValue false q ∨ (ratioValue true q).toNat = (ratioValue false q).toNat + 1 := by
  rw [ratioValue_rounded_eq_iff hq, ratioValue_rounded_toNat hq, ratioValue_floor_toNat hq]
  omega

end Value

section Ratio

/-! ## The value as the ratio of the counts -/

theorem half_quotient (m n : Nat) : m * 32768 / n / 2 = m * 16384 / n := by
  rw [Nat.div_div_eq_div_mul, ← Nat.mul_div_mul_right (m * 16384) n Nat.two_pos, Nat.mul_assoc]

/-- The floor of (Q + 1) / 2 is the ratio with one half added before the floor: the nearest integer, a half upward. -/
theorem half_quotient_succ {n : Nat} (hn : 0 < n) (m : Nat) :
    (m * 32768 / n + 1) / 2 = (m * 32768 + n) / (2 * n) := by
  rw [← Nat.add_div_right _ hn, Nat.div_div_eq_div_mul, Nat.mul_comm n]

end Ratio

section Outcome

variable {j : Job}

/-! ## The outcome of a job (R89) -/

theorem divide_zero_count (hn : j.n.toNat = 0) : divide j = { value := 0, status := .remoteDataInvalid } := if_pos hn

theorem divide_over_range (hn : j.n.toNat ≠ 0) (hm : 4 * j.n.toNat ≤ j.m.toNat) :
    divide j = { value := 0, status := .overRange } :=
  (if_neg hn).trans (if_pos hm)

theorem divide_in_range (hn : j.n.toNat ≠ 0) (hm : j.m.toNat < 4 * j.n.toNat) :
    divide j = { value := ratioValue j.round (quotient j.m.toNat j.n.toNat), status := .ok } :=
  (if_neg hn).trans (if_neg (Nat.not_le_of_gt hm))

/-- Settles O38: the two checks, then Q and the two forms of the value from it. -/
theorem divisionGivesTheRatioOfTheCounts : Obligations.DivisionGivesTheRatioOfTheCounts := by
  intro j m n
  refine ⟨divide_zero_count, divide_over_range, fun hn hm => ?_⟩
  have hpos : 0 < n := Nat.pos_of_ne_zero hn
  have hq : quotient m n = m * 32768 / n := quotient_eq hpos m
  have hle : quotient m n ≤ 131070 := quotient_le hpos j.m.isLt hm
  have hvalue : ∀ b, (divide { j with round := b }).value = ratioValue b (quotient m n) := fun b =>
    congrArg ConversionOutcome.value (divide_in_range (j := { j with round := b }) hn hm)
  have hdiv : divide j = { value := ratioValue j.round (quotient m n), status := .ok } := divide_in_range hn hm
  refine ⟨hq, hle, ?_, fun hr => ?_, fun hr => ?_, ?_, ?_⟩
  · rw [hdiv]
  · rw [hdiv, hr, ratioValue_floor_toNat hle, hq, half_quotient]
  · rw [hdiv, hr, ratioValue_rounded_toNat hle, hq, half_quotient_succ hpos]
  · rw [hvalue, hvalue, ratioValue_rounded_eq_iff hle]
  · rw [hvalue, hvalue]
    exact ratioValue_rounded_eq_or_succ hle

end Outcome

end Sys2Proof.Division

/-! Proofs of the family `11_window_and_record_layouts.md`: the port control word, first as a CONTROL write stores it, then as
the resets leave it and as a CONTROL read returns it. -/

namespace Sys2Proof.ControlWord

open Sys2Proof.Machine Sys2Proof.Statement

section StoredWord

/-! ## The word that a CONTROL write stores (R163) -/

/-- A tap select code is stored as it is or as off, and the codes stored as off are 0 and those that name no tap. -/
theorem normalTap_toNat (code : BitVec 4) :
    let k := code.toNat
    (normalTap code).toNat = if k = 1 ∨ k = 2 ∨ k = 3 ∨ k = 13 ∨ k = 14 ∨ k = 15 then 0 else k := by
  intro k
  have hk : k < 16 := code.isLt
  by_cases hlegal : 4 ≤ k ∧ k ≤ 12
  · rw [normalTap, if_pos (by simpa using hlegal), if_neg (by omega)]
  · rw [normalTap, if_neg (by simpa using hlegal), show (0 : BitVec 4).toNat = 0 from rfl]
    split <;> omega

theorem storedControl_getLsbD_of_lt (w : Word) {i : Nat} (hi : i < 9) : (storedControl w).getLsbD i = w.getLsbD i := by
  rw [storedControl, BitVec.getLsbD_append, if_pos hi, BitVec.getLsbD_extractLsb']
  simp [hi]

theorem storedControl_tap (w : Word) : (storedControl w).toNat / 2 ^ 9 = (normalTap (w.extractLsb' 9 4)).toNat := by
  rw [storedControl, BitVec.toNat_append, ← Nat.shiftRight_eq_div_pow, Nat.shiftRight_or_distrib,
    Nat.shiftLeft_shiftRight, Nat.shiftRight_eq_div_pow, Nat.div_eq_of_lt (BitVec.isLt _), Nat.or_zero]

theorem tapCode_toNat (w : Word) : (w.extractLsb' 9 4).toNat = w.toNat / 2 ^ 9 % 16 := by
  rw [BitVec.extractLsb'_toNat, Nat.shiftRight_eq_div_pow]

end StoredWord

section Cycles

variable {s : State} {p : Port}

/-! ## The cycles on the word, and the word after a reset -/

theorem exec_controlWrite_stores (ho : Open s p) {w : Word} (hw : w.getLsbD 15 = false) :
    exec (.controlWrite p true w) s
      = .next (s.setPort p { s.port p with control := storedControl w, dataOut := none }) := by
  have hstay : controlResets w = false := hw
  show execControlWrite p true w s = _
  simp [execControlWrite, State.controlWrite, opens_of_Open ho, hstay, State.drive]

theorem exec_controlWrite_resets (ho : Open s p) {w : Word} (hw : w.getLsbD 15 = true) :
    exec (.controlWrite p true w) s = .next (s.resetPort p (s.port p).rstN) :=
  congrArg Host.Outcome.next ((if_pos (opens_of_Open ho)).trans (if_pos hw))

/-- RESET_ACTION is the CONTROL write of its word with bit 15 set. -/
theorem exec_resetAction_resets (ho : Open s p) (w : Word) :
    exec (.resetAction p true w) s = .next (s.resetPort p (s.port p).rstN) :=
  exec_controlWrite_resets (w := w ||| 0x8000) ho (by simp)

theorem exec_snapshot_control (ho : Open s p) :
    exec (.snapshot p true .control) s
      = .next (s.setPort p { s.port p with dataOut := some (s.port p).controlWord }) :=
  congrArg Host.Outcome.next (if_pos (opens_of_Open ho))

theorem controlWord_toNat (x : PortState) : x.controlWord.toNat = x.control.toNat :=
  BitVec.toNat_setWidth_of_le (by decide)

theorem resetPort_control (pin : Level) : ((s.resetPort p pin).port p).control = 0 :=
  congrArg PortState.control (Requests.resetPort_port s p pin)

theorem resetDevice_control (cause : ResetCause) : ((s.resetDevice cause).port p).control = 0 :=
  congrArg PortState.control (Requests.resetDevice_port s p cause)

/-- Settles O9: the stored word bit by bit and by its tap select, then each cycle and each reset by its own lemma. -/
theorem controlWordIsStoredAndRead : Obligations.ControlWordIsStoredAndRead := by
  intro p s ho
  refine ⟨fun w hw => ?_, fun w => ?_, ?_, fun cause => ?_, ?_, fun _ => rfl⟩
  · refine ⟨storedControl w, exec_controlWrite_stores ho hw, fun i => storedControl_getLsbD_of_lt w i.isLt, ?_⟩
    rw [storedControl_tap, normalTap_toNat, tapCode_toNat]
  · exact ⟨_, exec_resetAction_resets ho w, resetPort_control _, exec_controlWrite_resets ho⟩
  · exact ⟨_, rfl, resetPort_control .low⟩
  · exact ⟨_, rfl, resetDevice_control cause⟩
  · exact ⟨_, exec_snapshot_control ho, controlWord_toNat _⟩

end Cycles

end Sys2Proof.ControlWord

/-! What every step keeps. First what a step can do: the effects that commands are made of, each a named operation of the
model, and the proof that every step is a run of them. An invariant is then one case analysis over the effects. -/

namespace Sys2Proof.Invariants

open Sys2Proof.Machine Sys2Proof.Statement

section Runs

/-- Finitely many steps of a relation, one after the other. -/
inductive Run {α : Type} (r : α → α → Prop) (a : α) : α → Prop where
  | refl : Run r a a
  | tail {b c : α} (h : Run r a b) (hlast : r b c) : Run r a c

variable {α : Type} {r : α → α → Prop} {a b c : α}

theorem Run.single (h : r a b) : Run r a b := .tail .refl h

theorem Run.trans (h : Run r a b) (h' : Run r b c) : Run r a c := by
  induction h' with
  | refl => exact h
  | tail _ hlast ih => exact ih.tail hlast

theorem Run.head (h : r a b) (h' : Run r b c) : Run r a c := (Run.single h).trans h'

end Runs

section Effects

variable {s t : State} {p : Port}

/-! ## The effects of commands -/

/-- A port after a change of its registers alone: what it holds for the shared blocks stands, and of the flags that other
blocks set none is raised. -/
structure OwnRegisters (x y : PortState) : Prop where
  slots : y.slots = x.slots
  queue : y.queue = x.queue
  version : y.version = x.version
  quietEnd : y.quietEnd = x.quietEnd
  flags : ∀ f : Flag, f ≠ .earlyStrobe → f ≠ .ackStale → y.flags.get f = true → x.flags.get f = true

/-- One effect of a command, before the part of the model that carries it out is looked into. -/
inductive Effect : State → State → Prop where
  | queue (s : State) (l : List Instr) : Effect s { s with pending := l }
  | registers (s : State) (p : Port) (x : PortState) (h : OwnRegisters (s.port p) x) : Effect s (s.setPort p x)
  | convert (s : State) (p : Port) (h : s.timebase.startState = .running) : Effect s (s.decideConvert p).state
  | watch (s : State) (p : Port) (h : s.timebase.startState = .running) : Effect s (s.decideWatch p).state
  | cancel (s : State) (p : Port) (h : s.timebase.startState = .running) : Effect s (s.decideCancel p).state
  | claim (s : State) (p : Port) (h : s.timebase.startState = .running) : Effect s (s.decideClaim p).state
  | release (s : State) (p : Port) (h : s.timebase.startState = .running) : Effect s (s.decideRelease p).state
  | configure (s : State) (p : Port) (h : s.timebase.startState = .running) : Effect s (s.decideConfigure p).state
  | quiet (s : State) (p : Port) (h : s.timebase.startState = .running) : Effect s (s.decideQuiet p).state
  | acknowledge (s : State) (p : Port) (v : Word) : Effect s (s.acknowledge p v)
  | resetPort (s : State) (p : Port) (pin : Level) : Effect s (s.resetPort p pin)
  | resetDevice (s : State) (cause : ResetCause) : Effect s (s.resetDevice cause)
  | releaseDevice (s : State) (xrate : Level) : Effect s (s.releaseDevice xrate)
  | startRunning (s : State) : Effect s s.startRunning
  | expiry (s : State) (i : DeadlineItem) : Effect s (s.takeExpiry i)
  | halfCycle (s : State) : Effect s s.halfCycle
  | fastPeriod (s : State) : Effect s s.fastPeriod
  | advanceTick (s : State) (linesHigh : Bool) (h : s.timebase.startState = .running) : Effect s (s.advanceTick linesHigh)
  | localTake (s : State) : Effect s s.localTake
  | divisionEnd (s : State) : Effect s s.divisionEnd
  | complete (s : State) (c : Channel) : Effect s (s.complete c)
  | chooseTrigger (s : State) (xcl : Level) : Effect s (s.chooseTrigger xcl)
  | chooseRead (s : State) (xcl : Level) : Effect s (s.chooseRead xcl)
  | attemptStart (s : State) (xcl : Level) : Effect s (s.attemptStart xcl)
  | stopCompletes (s : State) : Effect s s.stopCompletes
  | lossOfArbitration (s : State) (cause : LossCause) : Effect s (s.lossOfArbitration cause)
  | backoffEnd (s : State) (xcl : Level) : Effect s (s.backoffEnd xcl)
  | foreignStart (s : State) : Effect s s.foreignStart
  | foreignStop (s : State) : Effect s s.foreignStop
  | halfBitPeriodEnd (s : State) : Effect s s.halfBitPeriodEnd
  | xclSampledHigh (s : State) (xda : Level) : Effect s (s.xclSampledHigh xda)
  | xclPulledLow (s : State) : Effect s s.xclPulledLow
  | lineWentLow (s : State) : Effect s s.lineWentLow

/-- A run of effects. -/
abbrev Effects : State → State → Prop := Run Effect

/-! ## Changes of a port's registers -/

theorem OwnRegisters.of_eq {x y : PortState} (hs : y.slots = x.slots) (hq : y.queue = x.queue) (hv : y.version = x.version)
    (he : y.quietEnd = x.quietEnd) (hf : y.flags = x.flags) : OwnRegisters x y :=
  ⟨hs, hq, hv, he, fun f _ _ h => by rwa [← hf]⟩

theorem setPort_effects {x : PortState} (h : OwnRegisters (s.port p) x) : Effects s (s.setPort p x) :=
  .single (.registers s p x h)

theorem drive_effects (w : Option Word) : Effects s (s.drive p w) :=
  setPort_effects (.of_eq rfl rfl rfl rfl rfl)

theorem advanceWrite_effects : Effects s (s.setPort p (s.port p).advanceWrite) := by
  rw [advanceWrite_eq]
  exact setPort_effects (.of_eq rfl rfl rfl rfl rfl)

theorem advanceRead_effects : Effects s (s.setPort p (s.port p).advanceRead) := by
  rw [advanceRead_eq]
  exact setPort_effects (.of_eq rfl rfl rfl rfl rfl)

theorem raise_effects {f : Flag} (hf : f = .earlyStrobe ∨ f = .ackStale) : Effects s (s.raise p f) := by
  unfold State.raise
  split
  · exact .refl
  · refine setPort_effects ⟨rfl, rfl, rfl, rfl, fun g hg hg' h => ?_⟩
    rcases hf with rfl | rfl <;> cases g <;> first | exact h | exact absurd rfl hg | exact absurd rfl hg'

theorem takeSnapshot_effects (r : RecordName) : Effects s (s.takeSnapshot p r) :=
  setPort_effects (.of_eq rfl rfl rfl rfl rfl)

theorem snapshotFor_effects (a : BitVec 9) : Effects s (s.snapshotFor p a) := by
  unfold State.snapshotFor
  split
  · split
    · exact takeSnapshot_effects _
    · exact .refl
  all_goals exact .refl

theorem clearReturned_get {x : EventFlags} {w : Word} {f : Flag} (h : (x.clearReturned w).get f = true) :
    x.get f = true := by
  cases f <;> exact (Bool.and_eq_true_iff.1 h).1

theorem clearDriven_effects (a : BitVec 9) (w : Word) : Effects s (s.clearDriven p a w) := by
  unfold State.clearDriven
  split
  · exact setPort_effects ⟨rfl, rfl, rfl, rfl, fun f _ _ h => clearReturned_get h⟩
  · exact .refl

/-! ## Commits and cycles -/

theorem decideCommit_effects : Effects s (s.decideCommit p).state := by
  unfold State.decideCommit
  split
  · exact .refl
  · next hr =>
    split
    · exact .single (.convert s p hr)
    · exact .single (.watch s p hr)
    · exact .single (.cancel s p hr)
    · exact .single (.claim s p hr)
    · exact .single (.release s p hr)
    · exact .single (.configure s p hr)
    · exact .single (.quiet s p hr)
    · exact .refl

theorem commit_effects : Effects s (s.commit p) :=
  decideCommit_effects.trans (setPort_effects (.of_eq rfl rfl rfl rfl rfl))

theorem storeAt_effects (a : BitVec 9) (w : Word) : Effects s (s.storeAt p a w) := by
  unfold State.storeAt
  split
  · have hstore (i : Nat) : Effects s (s.setPort p { s.port p with staging := (s.port p).staging.store i w }) :=
      setPort_effects (.of_eq rfl rfl rfl rfl rfl)
    dsimp only
    split
    · exact (hstore _).trans commit_effects
    · exact hstore _
  · exact .single (.acknowledge s p w)
  all_goals exact .refl

theorem dataWrite_effects (c : DataCycle) (w : Word) : Effects s (s.dataWrite c w) := by
  unfold State.dataWrite
  split
  · refine .trans ?_ (drive_effects _)
    split
    · exact (storeAt_effects _ w).trans advanceWrite_effects
    · exact storeAt_effects _ w
  · exact .refl

theorem controlWrite_effects (selected : Bool) (w : Word) : Effects s (s.controlWrite p selected w) := by
  unfold State.controlWrite
  split
  · split
    · exact .single (.resetPort s p _)
    · refine .trans ?_ (drive_effects _)
      exact setPort_effects (.of_eq rfl rfl rfl rfl rfl)
  · exact .refl

theorem pointerWrite_effects (selected : Bool) (w : Word) : Effects s (s.pointerWrite p selected w) := by
  unfold State.pointerWrite
  split
  · refine (setPort_effects ?_).trans (drive_effects _)
    unfold PortState.writePointer
    (repeat' split) <;> exact .of_eq rfl rfl rfl rfl rfl
  · exact .refl

theorem dataRead_effects (advance : Bool) : Effects s (s.dataRead p advance) := by
  unfold State.dataRead
  refine .trans ?_ (drive_effects _)
  have hread := (snapshotFor_effects (s := s) (p := p) (s.port p).readPtr).trans
    (clearDriven_effects (p := p) (s.port p).readPtr ((s.snapshotFor p (s.port p).readPtr).wordAt p (s.port p).readPtr))
  split
  · exact hread.trans advanceRead_effects
  · exact hread

theorem readCycle_effects (selected : Bool) (x : Access) : Effects s (s.readCycle p selected x) := by
  unfold State.readCycle
  split
  · split
    · exact drive_effects _
    · exact drive_effects _
    · exact dataRead_effects _
    · exact dataRead_effects _
  · exact .refl

theorem earlyClose_effects (selected : Bool) (x : Access) (isRead : Bool) :
    Effects s (s.earlyClose p selected x isRead) := by
  unfold State.earlyClose
  split
  · refine .trans ?_ (raise_effects (.inl rfl))
    refine .trans ?_ (drive_effects _)
    split
    · exact snapshotFor_effects _
    · exact .refl
  · exact .refl

/-! ## Edges and ticks -/

theorem edge_effects (e : CountEdge) : Effects s (s.edge e) := by
  cases e
  · exact .single (.halfCycle s)
  · exact .single (.fastPeriod s)

theorem edges_effects (l : List CountEdge) : Effects s (s.edges l) := by
  induction l generalizing s with
  | nil => exact .refl
  | cons e l ih => exact (edge_effects e).trans ih

theorem takeExpiries_effects (l : List DeadlineItem) : Effects s (l.foldl State.takeExpiry s) := by
  induction l generalizing s with
  | nil => exact .refl
  | cons i l ih => exact .head (.expiry s i) ih

theorem tickEvent_effects (x : TickInput) : Effects s (s.tickEvent x) := by
  unfold State.tickEvent
  split
  · next hticks =>
    have hrun : s.timebase.startState = .running := ((Runs_iff s).1 hticks).1
    refine .tail ?_ (.advanceTick _ _ ?_)
    · exact ((takeExpiries_effects _).trans (edges_effects _)).trans (edges_effects _)
    · simpa [State.finishPeriods] using hrun
  · exact .refl

theorem referencePhaseEnd_effects : Effects s s.referencePhaseEnd := by
  unfold State.referencePhaseEnd
  split
  · exact .single (.halfCycle s)
  · exact .refl

theorem cycleCounterOverflow_effects : Effects s s.cycleCounterOverflow := by
  unfold State.cycleCounterOverflow
  split
  · exact .single (.halfCycle s)
  · exact .refl

theorem spanOverflow_effects : Effects s s.spanOverflow := by
  unfold State.spanOverflow
  split
  · exact .single (.fastPeriod s)
  · exact .refl

theorem sensingPhaseEnd_effects : Effects s s.sensingPhaseEnd := by
  unfold State.sensingPhaseEnd
  split
  · exact .single (.fastPeriod s)
  · exact .refl

/-! ## Every step is a run of effects -/

theorem exec_effects {c : Instr} (h : exec c s = .next t) : Effects s t := by
  cases c <;> cases h
  case convert | watch | cancel | claim | release | configure | quiet | commitBadKind | acknowledgement | stagingWrite =>
    exact dataWrite_effects _ _
  case controlWrite | resetAction => exact controlWrite_effects _ _
  case pointerWrite => exact pointerWrite_effects _ _
  case snapshot | eventRecordRead => exact readCycle_effects _ _
  case earlyStrobe => exact earlyClose_effects _ _ _
  case portReset p => exact .single (.resetPort s p _)
  case portResetRelease p => exact setPort_effects (.of_eq rfl rfl rfl rfl rfl)
  case deviceReset cause => exact .single (.resetDevice s cause)
  case enterRunning => exact .single (.startRunning s)
  case tick => exact tickEvent_effects _
  case claimExpiry c => exact .single (.expiry s (.claim c))
  case dueExpiry p i => exact .single (.expiry s (.watchDue p i))
  case quietWindowExpiry p => exact .single (.expiry s (.quietEnd p))
  case readExpiry r => exact .single (.expiry s (.readDue r))
  case holdLimitExpiry => exact .single (.expiry s .holdLimit)
  case busWaitLimitExpiry => exact .single (.expiry s .busWait)
  case localTake => exact .single (.localTake s)
  case referencePhaseEnd l => exact (edges_effects l).trans referencePhaseEnd_effects
  case spanOverflow => exact spanOverflow_effects
  case sensingPhaseEnd l => exact (edges_effects l).trans sensingPhaseEnd_effects
  case cycleCounterOverflow => exact cycleCounterOverflow_effects
  case divisionEnd => exact .single (.divisionEnd s)
  case completion c => exact .single (.complete s c)
  case trigger x => exact .single (.chooseTrigger s x)
  case read x => exact .single (.chooseRead s x)
  case attemptStart x => exact .single (.attemptStart s x)
  case stop => exact .single (.stopCompletes s)
  case lossOfArbitration x => exact .single (.lossOfArbitration s x)
  case backoffEnd x => exact .single (.backoffEnd s x)
  case startCondition => exact .single (.foreignStart s)
  case stopCondition => exact .single (.foreignStop s)
  case resetNRelease x => exact .single (.releaseDevice s x)
  case halfBitPeriodEnd => exact .single (.halfBitPeriodEnd s)
  case xclSampledHigh x => exact .single (.xclSampledHigh s x)
  case xclPulledLowByAnotherDevice => exact .single (.xclPulledLow s)
  case busLineLow => exact .single (.lineWentLow s)

theorem step_effects (h : step s = .next t) : Effects s t := by
  unfold step at h
  split at h
  · cases h
    exact .refl
  · next rest _ => exact .head (.queue s rest) (exec_effects h)

/-- What every effect keeps, every step keeps. -/
theorem step_keeps {I : State → Prop} (hI : ∀ {s t}, Effect s t → I s → I t) (h : step s = .next t) (hs : I s) : I t := by
  have hrun := step_effects h
  clear h
  induction hrun with
  | refl => exact hs
  | tail _ he ih => exact hI he ih

end Effects

end Sys2Proof.Invariants

/-! What the engines, the converter, the Ratio Unit and the bus controller do by themselves: it never reaches a channel
record, a result entry, the Pending List or a port. -/

namespace Sys2Proof.Invariants

open Sys2Proof.Machine Sys2Proof.Statement

section InternalWork

/-- The items of the bus controller and of the Remote Engine. -/
def isEngineItem : DeadlineItem → Bool
  | .watchDue _ _ => false
  | .claim _ => false
  | .quietEnd _ => false
  | .readDue _ => true
  | .holdLimit => true
  | .busWait => true

/-- Work inside the engines: it changes their own blocks and their own deadlines, and writes outcomes into conversion
records. -/
inductive Internal : State → State → Prop where
  | refl (s : State) : Internal s s
  | trans {s t u : State} (h : Internal s t) (h' : Internal t u) : Internal s u
  | bus (s : State) (x : BusController) : Internal s { s with bus := x }
  | remote (s : State) (x : RemoteEngine) : Internal s { s with remote := x }
  | ratio (s : State) (x : RatioUnit) : Internal s { s with ratio := x }
  | converter (s : State) (x : Converter) : Internal s { s with converter := x }
  | handOff (s : State) (c : Channel) (o : ConversionOutcome) : Internal s (s.handOff c o)
  | dropDeadline (s : State) (i : DeadlineItem) (h : isEngineItem i = true) : Internal s (s.dropDeadline i)
  | placeDeadline (s : State) (i : DeadlineItem) (x : Stamp) (h : isEngineItem i = true) : Internal s (s.placeDeadline i x)

/-- Internal work does not reach the shared tables, the ports or the clock. -/
theorem Internal.frame {s t : State} (h : Internal s t) :
    t.pending = s.pending ∧ t.resetN = s.resetN ∧ t.channels = s.channels ∧ t.results = s.results
      ∧ t.pendingList = s.pendingList ∧ t.portA = s.portA ∧ t.portB = s.portB
      ∧ t.timebase.startState = s.timebase.startState ∧ t.timebase.tick = s.timebase.tick
      ∧ t.timebase.subTick = s.timebase.subTick := by
  induction h with
  | trans _ _ h h' => grind
  | handOff => simp
  | _ => exact ⟨rfl, rfl, rfl, rfl, rfl, rfl, rfl, rfl, rfl, rfl⟩

/-- The conversions in flight stay the same ones: internal work can only write their outcomes. -/
theorem Internal.inFlight_map {α : Type} (f : ConversionRecord → α)
    (hf : ∀ (r : ConversionRecord) (o : Option ConversionOutcome), f { r with outcome := o } = f r) {s t : State}
    (h : Internal s t) : t.inFlight.map f = s.inFlight.map f := by
  induction h with
  | trans _ _ h h' => exact h'.trans h
  | handOff s c o =>
    simp only [State.handOff, List.map_map]
    refine List.map_congr_left fun r _ => ?_
    simp only [Function.comp]
    split
    · exact hf r _
    · rfl
  | _ => rfl

variable (s : State)

/-! ## The Ratio Unit -/

theorem arrive_internal (e : Engine) (j : Job) : Internal s (s.arrive e j) := by
  unfold State.arrive
  (repeat' split) <;> exact .ratio s _

theorem setRow_internal (r : RowNo) (x : Row) : Internal s (s.setRow r x) := .remote s _

theorem localInputEmptied_internal : Internal s s.localInputEmptied := by
  unfold State.localInputEmptied
  split
  · exact (arrive_internal s _ _).trans (.converter _ _)
  all_goals exact .refl s

theorem remoteInputEmptied_internal : Internal s s.remoteInputEmptied := by
  unfold State.remoteInputEmptied
  split
  · exact .refl s
  · exact ((arrive_internal s _ _).trans (setRow_internal _ _ _)).trans (.remote _ _)

theorem divideLocal_internal (j : Job) : Internal s (s.divideLocal j) :=
  (Internal.ratio s _).trans (localInputEmptied_internal _)

theorem divideRemote_internal (j : Job) : Internal s (s.divideRemote j) :=
  (Internal.ratio s _).trans (remoteInputEmptied_internal _)

theorem dividerFreed_internal : Internal s s.dividerFreed := by
  unfold State.dividerFreed
  split
  · exact .refl s
  · exact divideLocal_internal s _
  · exact divideRemote_internal s _
  · split
    · exact (Internal.ratio s _).trans (divideLocal_internal _ _)
    · exact (Internal.ratio s _).trans (divideRemote_internal _ _)

theorem divisionEnd_internal : Internal s s.divisionEnd := by
  unfold State.divisionEnd
  split
  · exact .refl s
  · exact ((Internal.handOff s _ _).trans (.ratio _ _)).trans (dividerFreed_internal _)

/-! ## The converter -/

theorem localError_internal (cur : Current) (status : Status) : Internal s (s.localError cur status) :=
  (Internal.handOff s _ _).trans (.converter _ _)

theorem endReference_internal (cur : Current) : Internal s (s.endReference cur) := by
  unfold State.endReference
  split
  · exact .converter s _
  · exact localError_internal s _ _

theorem offerLocal_internal (cur : Current) (j : Job) : Internal s (s.offerLocal cur j) := by
  unfold State.offerLocal
  split
  · exact (arrive_internal s _ _).trans (.converter _ _)
  · exact .converter s _

theorem endSensing_internal (cur : Current) : Internal s (s.endSensing cur) := by
  unfold State.endSensing
  split
  · exact localError_internal s _ _
  · exact offerLocal_internal s _ _

theorem oscillatorCycle_internal : Internal s s.oscillatorCycle := by
  unfold State.oscillatorCycle
  split
  · split
    · exact endReference_internal s _
    · exact .converter s _
  · split
    · exact localError_internal s _ _
    · exact .converter s _
  all_goals exact .refl s

theorem halfCycle_internal : Internal s s.halfCycle := by
  unfold State.halfCycle
  split
  · split
    · exact .converter s _
    · exact (Internal.converter s _).trans (oscillatorCycle_internal _)
  · exact .refl s

theorem spanPeriod_internal : Internal s s.spanPeriod := by
  unfold State.spanPeriod
  split
  · split
    · exact localError_internal s _ _
    · exact .converter s _
  · split
    · exact endSensing_internal s _
    · exact .converter s _
  all_goals exact .refl s

theorem quietEnds_internal : Internal s s.quietEnds := by
  unfold State.quietEnds
  split
  · exact .converter s _
  all_goals exact .refl s

/-! ## The Remote Engine -/

theorem remoteError_internal (r : RowNo) (status : Status) : Internal s (s.remoteError r status) :=
  (setRow_internal s _ _).trans (.handOff _ _ _)

theorem settleRow_internal (r : RowNo) (ahead : Stamp) (polls : BitVec 4) : Internal s (s.settleRow r ahead polls) :=
  (setRow_internal s _ _).trans (.placeDeadline _ _ _ rfl)

theorem triggerOutcome_internal (r : RowNo) (o : BusOutcome) : Internal s (s.triggerOutcome r o) := by
  cases o
  case done => exact settleRow_internal s _ _ _
  all_goals exact remoteError_internal s _ _

theorem offerRemote_internal (r : RowNo) (m n : Word) : Internal s (s.offerRemote r m n) := by
  unfold State.offerRemote
  dsimp only
  split
  · exact (arrive_internal s _ _).trans (setRow_internal _ _ _)
  · exact (setRow_internal s _ _).trans (.remote _ _)

theorem resultBlock_internal (r : RowNo) (l : List Byte) : Internal s (s.resultBlock r l) := by
  unfold State.resultBlock
  split
  · split
    · exact offerRemote_internal s _ _ _
    · split
      · split
        · exact settleRow_internal s _ _ _
        · exact remoteError_internal s _ _
      · exact remoteError_internal s _ _
  · exact remoteError_internal s _ _

theorem readOutcome_internal (r : RowNo) (o : BusOutcome) : Internal s (s.readOutcome r o) := by
  cases o
  case done => exact resultBlock_internal s _ _
  all_goals exact remoteError_internal s _ _

theorem takeOutcome_internal (o : BusOutcome) : Internal s (s.takeOutcome o) := by
  unfold State.takeOutcome
  split
  · exact .refl s
  · split
    · exact triggerOutcome_internal s _ _
    · exact readOutcome_internal s _ _

theorem takeReadExpiry_internal (r : RowNo) : Internal s (s.takeReadExpiry r) := by
  unfold State.takeReadExpiry
  split
  · exact ((Internal.dropDeadline s _ rfl).trans (setRow_internal _ _ _)).trans (.remote _ _)
  · exact .refl s

/-! ## The bus controller -/

theorem enterBus_internal (c : BusControl) : Internal s (s.enterBus c) := .bus s _

theorem endTransaction_internal (o : BusOutcome) : Internal s (s.endTransaction o) :=
  (((Internal.dropDeadline s .holdLimit rfl).trans (.dropDeadline _ .busWait rfl)).trans (.bus _ _)).trans
    (takeOutcome_internal _ o)

theorem lose_internal : Internal s s.lose := by
  unfold State.lose
  split
  · exact ((Internal.dropDeadline s .holdLimit rfl).trans (.bus _ _)).trans (.placeDeadline _ _ _ rfl)
  · exact endTransaction_internal s _

theorem beginStart_internal (xcl : Level) : Internal s (s.beginStart xcl) := by
  cases xcl
  · exact lose_internal s
  · exact ((Internal.dropDeadline s .busWait rfl).trans (.bus _ _)).trans (enterBus_internal _ _)

theorem enterWaitFree_internal (xcl : Level) : Internal s (s.enterWaitFree xcl) := by
  unfold State.enterWaitFree
  dsimp only
  split
  · exact (enterBus_internal s _).trans (beginStart_internal _ _)
  · exact enterBus_internal s _

theorem acceptTransaction_internal (t : Transaction) (xcl : Level) : Internal s (s.acceptTransaction t xcl) :=
  ((Internal.bus s _).trans (.placeDeadline _ _ _ rfl)).trans (enterWaitFree_internal _ _)

theorem attemptStart_internal (xcl : Level) : Internal s (s.attemptStart xcl) := by
  unfold State.attemptStart
  split
  · exact beginStart_internal s _
  · exact .refl s

theorem backoffEnd_internal (xcl : Level) : Internal s (s.backoffEnd xcl) := by
  unfold State.backoffEnd
  split
  · exact enterWaitFree_internal s _
  · exact .refl s

theorem releaseXcl_internal (c : BusControl) : Internal s (s.releaseXcl c) :=
  (enterBus_internal s c).trans (.placeDeadline _ _ _ rfl)

theorem endHighHalf_internal : Internal s s.endHighHalf := by
  unfold State.endHighHalf
  (repeat' split) <;> first | exact .refl s | exact .bus s _

theorem halfBitPeriodEnd_internal : Internal s s.halfBitPeriodEnd := by
  unfold State.halfBitPeriodEnd
  split
  all_goals first
    | exact .bus s _
    | exact releaseXcl_internal s _
    | exact endHighHalf_internal s

theorem xclSampledHigh_internal (xda : Level) : Internal s (s.xclSampledHigh xda) := by
  have hdrop : Internal s (s.dropDeadline .holdLimit) := .dropDeadline s _ rfl
  unfold State.xclSampledHigh
  dsimp only
  (repeat' split) <;> first
    | exact .refl s
    | exact hdrop.trans (lose_internal _)
    | exact hdrop.trans (enterBus_internal _ _)

theorem lineWentLow_internal : Internal s s.lineWentLow := .bus s _

theorem xclPulledLow_internal : Internal s s.xclPulledLow := by
  unfold State.xclPulledLow
  dsimp only
  refine (lineWentLow_internal s).trans ?_
  split
  · exact enterBus_internal _ _
  · exact lose_internal _
  · exact enterBus_internal _ _
  · exact endHighHalf_internal _

theorem foreignStart_internal : Internal s s.foreignStart := by
  unfold State.foreignStart
  split
  · exact .bus s _
  · split
    · exact (Internal.bus s _).trans (lose_internal s.sawStart)
    · exact .refl s

theorem foreignStop_internal : Internal s s.foreignStop := by
  unfold State.foreignStop
  split
  · exact .bus s _
  · split
    · exact (Internal.bus s _).trans (lose_internal s.sawStop)
    · exact .refl s

theorem seeCause_internal (cause : LossCause) : Internal s (s.seeCause cause) := by
  cases cause <;> first | exact .refl s | exact .bus s _

theorem lossOfArbitration_internal (cause : LossCause) : Internal s (s.lossOfArbitration cause) := by
  unfold State.lossOfArbitration
  split
  · exact (seeCause_internal s _).trans (lose_internal _)
  · exact .refl s

theorem stopCompletes_internal : Internal s s.stopCompletes := by
  have hend (o : BusOutcome) : Internal s (s.sawStop.endTransaction o) :=
    (Internal.bus s _).trans (endTransaction_internal s.sawStop o)
  unfold State.stopCompletes
  split
  · exact hend _
  · exact hend _
  · exact hend _
  · exact .refl s

theorem takeHoldExpiry_internal : Internal s s.takeHoldExpiry := by
  unfold State.takeHoldExpiry
  split
  · exact endTransaction_internal s _
  · exact .refl s

theorem takeBusWaitExpiry_internal : Internal s s.takeBusWaitExpiry := by
  unfold State.takeBusWaitExpiry
  split
  · exact endTransaction_internal s _
  · exact .refl s

theorem chooseRead_internal (xcl : Level) : Internal s (s.chooseRead xcl) := by
  unfold State.chooseRead
  split
  · split
    · exact .refl s
    · exact ((setRow_internal s _ _).trans (.remote _ _)).trans (acceptTransaction_internal _ _ _)
  · exact .refl s

end InternalWork

end Sys2Proof.Invariants

/-! What the shared blocks do: the effects of commands once more, with the internal work of the engines taken as one kind and
the rest cut into single operations on the shared tables. -/

namespace Sys2Proof.Invariants

open Sys2Proof.Machine Sys2Proof.Statement Sys2Proof.Claims Sys2Proof.Requests

section SharedWork

/-! ## The operations on the shared tables -/

/-- A port that holds what it held for the shared blocks: its slots, its records and its quiet window. -/
structure SameHoldings (x y : PortState) : Prop where
  slots : y.slots = x.slots
  queue : y.queue = x.queue
  quietEnd : y.quietEnd = x.quietEnd

/-- The channel record that an accepted CONFIGURE with enable ON writes (R12). -/
def switchedOn (x : ChannelRecord) (round : Bool) (f : KindFields) : ChannelRecord :=
  { x with enable := true, round := round, fields := f, generation := x.generation + 1 }

/-- The channel record that an accepted CONFIGURE with enable OFF writes (R13). -/
def switchedOff (x : ChannelRecord) : ChannelRecord := { x with enable := false, generation := x.generation + 1 }

/-- A port's window set and its deadline placed (R36, R58). -/
def windowSet (s : State) (p : Port) (x : Stamp) : State :=
  (s.setPort p { s.port p with quietEnd := some x }).placeDeadline (.quietEnd p) x

/-- A port's window taken away with its deadline (R36, R59). -/
def windowCleared (s : State) (p : Port) : State :=
  (s.setPort p { s.port p with quietEnd := none }).dropDeadline (.quietEnd p)

/-- The result entry that a completion writes (R68). -/
def completedEntry (s : State) (c : Channel) (r : ConversionRecord) (o : ConversionOutcome) : ResultEntry :=
  { valid := true, reserved := false, part := completedPart (s.result c).part r o s.now }

/-- A completion up to its flags: the record leaves, the entry is written, the waiters are served (R52). -/
def finished (s : State) (c : Channel) (r : ConversionRecord) (o : ConversionOutcome) : State :=
  (({ s with inFlight := s.inFlight.eraseP (fun x => decide (x.channel = c)) } : State).setResult c
    (completedEntry s c r o)).deliverAll r.waiters (completedEntry s c r o).part

/-- A port reset up to what the end of quiet activity does to the converter (R160). -/
def portCleared (s : State) (p : Port) (pin : Level) : State :=
  State.setPort
    { s.removeWaiters (fun w => decide (w.port = p)) with
      timebase := s.timebase.dropAll (s.ownsDeadline p)
      channels := Vector.ofFn (fun c : Channel => freedClaim p (s.channel c)) }
    p (PortState.reset pin)

/-- One operation on the shared tables, or internal work. -/
inductive SharedEffect : State → State → Prop where
  | internal {s t : State} (h : Internal s t) : SharedEffect s t
  | queue (s : State) (l : List Instr) : SharedEffect s { s with pending := l }
  | pins (s : State) (l : Level) (x : BusController) : SharedEffect s { s with resetN := l, bus := x }
  | clock (s : State) (x : StartState) (n : BitVec 8) (k : Nat) :
      SharedEffect s { s with timebase := { s.timebase with startState := x, subTick := n, crystalCycles := k } }
  | registers (s : State) (p : Port) (x : PortState) (h : SameHoldings (s.port p) x) : SharedEffect s (s.setPort p x)
  | convert (s : State) (p : Port) (i : SlotNo) (c : Channel) (hi : s.freeSlot p = some i)
      (he : (s.channel c).enable = true) :
      SharedEffect s ((s.setSlot p i (convertSlot (s.staging p) c)).requestConversion p i)
  | watch (s : State) (p : Port) (i : SlotNo) (c : Channel) (hi : s.freeSlot p = some i)
      (he : (s.channel c).enable = true) :
      SharedEffect s (((s.setSlot p i (watchSlot (s.staging p) c (s.firstDue p))).placeDeadline (.watchDue p i)
        (s.firstDue p)).requestConversion p i)
  | cancel (s : State) (p : Port) (i : SlotNo) (h : (s.slot p i).state = .waiting ∨ (s.slot p i).state = .dormant) :
      SharedEffect s ((leftWaiters s p i).endSlot p i .cancelled)
  | claim (s : State) (p : Port) (c : Channel) (d : Word) : SharedEffect s (granted s c p d)
  | endClaim (s : State) (c : Channel) : SharedEffect s (s.endClaim c)
  | configureOn (s : State) (p : Port) (c : Channel) (f : KindFields)
      (hf : requestedFields c (s.staging p) = some f) (ha : s.addressInUse c f = false) :
      SharedEffect s (s.setChannel c (switchedOn (s.channel c) (settingsRound (s.staging p).settings) f))
  | configureOff (s : State) (c : Channel) (h : (s.result c).reserved = false) :
      SharedEffect s ((s.setChannel c (switchedOff (s.channel c))).withdraw c)
  | openWindow (s : State) (p : Port) (x : Stamp) : SharedEffect s (windowSet s p x)
  | closeWindow (s : State) (p : Port) : SharedEffect s (windowCleared s p)
  | discard (s : State) (c : Channel) : SharedEffect s (s.discard c)
  | acknowledge (s : State) (p : Port) (r : ResponseRecord) (rest : List ResponseRecord)
      (hq : (s.port p).queue = r :: rest) :
      SharedEffect s (s.setPort p { s.port p with
        queue := rest, slots := (s.port p).slots.set r.slot (acknowledgedSlot r (s.slot p r.slot)) })
  | clearPort (s : State) (p : Port) (pin : Level) : SharedEffect s (portCleared s p pin)
  | resetDevice (s : State) (cause : ResetCause) : SharedEffect s (s.resetDevice cause)
  | dueDormant (s : State) (p : Port) (i : SlotNo) (hd : .watchDue p i ∈ s.timebase.delivered)
      (h : (s.slot p i).state = .dormant) :
      SharedEffect s (((s.setSlot p i { s.slot p i with nextDue := nextDue (s.slot p i) }).placeDeadline (.watchDue p i)
        (nextDue (s.slot p i))).requestConversion p i)
  | dueWaiting (s : State) (p : Port) (i : SlotNo) (hd : .watchDue p i ∈ s.timebase.delivered)
      (h : (s.slot p i).state = .waiting) :
      SharedEffect s ((s.setSlot p i { s.slot p i with
        nextDue := nextDue (s.slot p i), missed := satInc (s.slot p i).missed }).placeDeadline (.watchDue p i)
        (nextDue (s.slot p i)))
  | take (s : State) (e : PendingEntry) (x : Engine) (h : s.takeable (decide (x = .localEngine)) = some e)
      (hroom : s.inFlightOf x < if x = .localEngine then 2 else 4) : SharedEffect s (s.startConversion x e)
  | finish (s : State) (c : Channel) (r : ConversionRecord) (o : ConversionOutcome)
      (h : s.inFlight.find? (fun r => decide (r.channel = c)) = some r) (ho : r.outcome = some o) :
      SharedEffect s (finished s c r o)
  | advance (s : State) : SharedEffect s { s with timebase := s.timebase.advance }

/-- A run of operations on the shared tables. -/
abbrev SharedEffects : State → State → Prop := Run SharedEffect

variable {s t : State} {p : Port}

theorem Internal.shared (h : Internal s t) : SharedEffects s t := .single (.internal h)

theorem raise_shared (f : Flag) : SharedEffects s (s.raise p f) := by
  unfold State.raise
  split
  · exact .refl
  · exact .single (.registers s p _ ⟨rfl, rfl, rfl⟩)

/-! ## Commits -/

theorem decideConvert_shared : SharedEffects s (s.decideConvert p).state := by
  unfold State.decideConvert
  split
  · exact .refl
  · next c _ =>
    split
    · next he =>
      split
      · exact .refl
      · next i hi => exact .single (.convert s p i c hi he)
    · exact .refl

theorem decideWatch_shared : SharedEffects s (s.decideWatch p).state := by
  unfold State.decideWatch
  split
  · exact .refl
  · next c _ =>
    split
    · next he =>
      split
      · split
        · exact .refl
        · next i hi => exact .single (.watch s p i c hi he)
      · exact .refl
    · exact .refl

theorem decideCancel_shared : SharedEffects s (s.decideCancel p).state := by
  unfold State.decideCancel
  split
  · exact .refl
  · next i _ =>
    split
    · next h =>
      have hleft : SharedEffects s _ := .single (.cancel s p i (.inl h))
      rwa [leftWaiters, if_pos h] at hleft
    · next h =>
      have hleft : SharedEffects s _ := .single (.cancel s p i (.inr h))
      rwa [leftWaiters, if_neg (by simp [h])] at hleft
    · exact .refl
    · exact .refl

theorem decideClaim_shared : SharedEffects s (s.decideClaim p).state := by
  unfold State.decideClaim
  split
  · exact .refl
  · next c _ =>
    split
    · split
      · exact .refl
      · exact .single (.claim s p c (s.staging p).paramA)
    · exact .refl

theorem decideRelease_shared : SharedEffects s (s.decideRelease p).state := by
  unfold State.decideRelease
  split
  · exact .refl
  · split
    · exact .single (.endClaim s _)
    · exact .refl

theorem decideConfigure_shared : SharedEffects s (s.decideConfigure p).state := by
  unfold State.decideConfigure
  split
  · exact .refl
  · next c _ =>
    split
    · split
      · exact .refl
      · next hr =>
        have hr : (s.result c).reserved = false := Bool.eq_false_iff.2 hr
        split
        · split
          · exact .refl
          · next f hf =>
            split
            · exact .refl
            · next ha => exact .single (.configureOn s p c f hf (Bool.eq_false_iff.2 ha))
        · have hoff : SharedEffects s _ := .single (.configureOff s c hr)
          simpa only [switchedOff, State.accept] using hoff
    · exact .refl

/-! ## Quiet windows -/

theorem quietOnset_shared : SharedEffects s s.quietOnset := by
  unfold State.quietOnset
  split
  · exact (Internal.converter s _).shared
  · exact .head (.discard s _) (Internal.converter _ _).shared
  · exact .head (.discard s _) (Internal.converter _ _).shared
  · exact .refl
  · exact .refl

theorem openQuiet_shared (x : Stamp) : SharedEffects s (s.openQuiet p x) := by
  refine .head (.openWindow s p x) ?_
  unfold State.openQuiet
  dsimp only
  split
  · exact .refl
  · exact quietOnset_shared

theorem closeQuiet_shared : SharedEffects s (s.closeQuiet p) := by
  unfold State.closeQuiet
  split
  · refine .head (.closeWindow s p) ?_
    dsimp only
    split
    · exact .refl
    · exact (quietEnds_internal _).shared
  · exact .refl

theorem decideQuiet_shared : SharedEffects s (s.decideQuiet p).state := by
  unfold State.decideQuiet
  split
  · split
    · exact closeQuiet_shared
    · exact openQuiet_shared _
  · exact .refl

/-! ## Acknowledgements -/

theorem acknowledge_shared (v : Word) : SharedEffects s (s.acknowledge p v) := by
  unfold State.acknowledge
  split
  · exact raise_shared _
  · next r rest hq =>
    split
    · have hack := SharedEffect.acknowledge s p r rest hq
      simp only [State.setSlot, State.port_setPort, State.setPort_setPort]
      exact .single hack
    · exact raise_shared _

/-! ## Expiries, resets and ticks -/

theorem takeDueExpiry_shared (i : SlotNo) : SharedEffects s (s.takeDueExpiry p i) := by
  unfold State.takeDueExpiry
  split
  · next hd =>
    have hd := (expiryDue_iff s _).1 hd
    dsimp only
    split
    · next h => exact .single (.dueDormant s p i hd h)
    · next h => exact .single (.dueWaiting s p i hd h)
    · exact .refl
    · exact .refl
  · exact .refl

theorem takeClaimExpiry_shared (c : Channel) : SharedEffects s (s.takeClaimExpiry c) := by
  unfold State.takeClaimExpiry
  split
  · split
    · exact .head (.endClaim s c) (raise_shared _)
    · exact .single (.endClaim s c)
  · exact .refl

theorem takeQuietExpiry_shared : SharedEffects s (s.takeQuietExpiry p) := by
  unfold State.takeQuietExpiry
  split
  · exact closeQuiet_shared.trans (raise_shared _)
  · exact .refl

theorem takeExpiry_shared (i : DeadlineItem) : SharedEffects s (s.takeExpiry i) := by
  cases i
  case watchDue p i => exact takeDueExpiry_shared i
  case claim c => exact takeClaimExpiry_shared c
  case quietEnd p => exact takeQuietExpiry_shared
  case readDue r => exact (takeReadExpiry_internal s r).shared
  case holdLimit => exact (takeHoldExpiry_internal s).shared
  case busWait => exact (takeBusWaitExpiry_internal s).shared

theorem resetPort_shared (pin : Level) : SharedEffects s (s.resetPort p pin) := by
  refine .head (.clearPort s p pin) ?_
  unfold State.resetPort
  dsimp only
  split
  · exact (quietEnds_internal _).shared
  · exact .refl

theorem tap_shared : SharedEffects s (s.tap p) := by
  unfold State.tap
  split
  · exact raise_shared _
  · exact .refl

theorem advanceTick_shared (linesHigh : Bool) : SharedEffects s (s.advanceTick linesHigh) :=
  .head (.advance s) (.trans tap_shared (.trans tap_shared (Internal.bus _ _).shared))

theorem startRunning_shared : SharedEffects s s.startRunning := by
  unfold State.startRunning
  split
  · exact .single (.clock s _ _ _)
  · exact .refl

theorem fastPeriod_shared : SharedEffects s s.fastPeriod := by
  unfold State.fastPeriod
  split
  · dsimp only
    split
    · exact .head (.clock s _ _ _) (spanPeriod_internal _).shared
    · exact .single (.clock s _ _ _)
  · exact .refl

theorem releaseDevice_shared (xrate : Level) : SharedEffects s (s.releaseDevice xrate) := by
  unfold State.releaseDevice
  split
  · exact .single (.pins s _ _)
  · exact .refl

/-! ## Takes and completions -/

theorem localTake_shared : SharedEffects s s.localTake := by
  unfold State.localTake
  split
  · next hc =>
    split
    · exact .refl
    · next e he =>
      split
      · exact .head (.take s e .localEngine he hc.2.2) (Internal.converter _ _).shared
      · exact .refl
  · exact .refl

theorem chooseTrigger_shared (xcl : Level) : SharedEffects s (s.chooseTrigger xcl) := by
  unfold State.chooseTrigger
  split
  · next hc =>
    split
    · next r e _ he =>
      split
      · exact .head (.take s e .remoteEngine he hc.2.2)
          ((setRow_internal _ _ _).trans (acceptTransaction_internal _ _ _)).shared
      · exact .refl
    · exact .refl
  · exact .refl

theorem complete_shared (c : Channel) : SharedEffects s (s.complete c) := by
  unfold State.complete
  split
  · exact .refl
  · next r hr =>
    split
    · exact .refl
    · next o ho =>
      refine .head (.finish s c r o hr ho) ?_
      dsimp only
      split
      · exact raise_shared _ |>.trans (raise_shared _)
      · exact .refl

/-- Every effect is a run of operations on the shared tables. -/
theorem Effect.shared (h : Effect s t) : SharedEffects s t := by
  cases h with
  | queue l => exact .single (.queue s l)
  | registers p x h => exact .single (.registers s p x ⟨h.slots, h.queue, h.quietEnd⟩)
  | convert p => exact decideConvert_shared
  | watch p => exact decideWatch_shared
  | cancel p => exact decideCancel_shared
  | claim p => exact decideClaim_shared
  | release p => exact decideRelease_shared
  | configure p => exact decideConfigure_shared
  | quiet p => exact decideQuiet_shared
  | acknowledge p v => exact acknowledge_shared v
  | resetPort p pin => exact resetPort_shared pin
  | resetDevice cause => exact .single (.resetDevice s cause)
  | releaseDevice xrate => exact releaseDevice_shared xrate
  | startRunning => exact startRunning_shared
  | expiry i => exact takeExpiry_shared i
  | halfCycle => exact (halfCycle_internal s).shared
  | fastPeriod => exact fastPeriod_shared
  | advanceTick linesHigh => exact advanceTick_shared linesHigh
  | localTake => exact localTake_shared
  | divisionEnd => exact (divisionEnd_internal s).shared
  | complete c => exact complete_shared c
  | chooseTrigger xcl => exact chooseTrigger_shared xcl
  | chooseRead xcl => exact (chooseRead_internal s xcl).shared
  | attemptStart xcl => exact (attemptStart_internal s xcl).shared
  | stopCompletes => exact (stopCompletes_internal s).shared
  | lossOfArbitration cause => exact (lossOfArbitration_internal s cause).shared
  | backoffEnd xcl => exact (backoffEnd_internal s xcl).shared
  | foreignStart => exact (foreignStart_internal s).shared
  | foreignStop => exact (foreignStop_internal s).shared
  | halfBitPeriodEnd => exact (halfBitPeriodEnd_internal s).shared
  | xclSampledHigh xda => exact (xclSampledHigh_internal s xda).shared
  | xclPulledLow => exact (xclPulledLow_internal s).shared
  | lineWentLow => exact (lineWentLow_internal s).shared

/-- What every operation on the shared tables keeps, every step keeps. -/
theorem step_keeps_shared {I : State → Prop} (hI : ∀ {s t}, SharedEffect s t → I s → I t) (h : step s = .next t)
    (hs : I s) : I t := by
  refine step_keeps (I := I) (fun he hs => ?_) h hs
  have hrun := he.shared
  clear he
  induction hrun with
  | refl => exact hs
  | tail _ he ih => exact hI he ih

end SharedWork

end Sys2Proof.Invariants

/-! The reservations (R40, R41, R67), seen as three readings of the state: the channels of the Pending List, the channels and
engines of the conversions in flight, and the marks of the result entries. -/

namespace Sys2Proof.Invariants

open Sys2Proof.Machine Sys2Proof.Statement Sys2Proof.Claims Sys2Proof.Requests

section Readings

/-! ## The three readings -/

/-- The channels of the Pending List, in its order. -/
def pendingChannels (s : State) : List Channel := s.pendingList.map (·.channel)

/-- The channels and the engines of the conversions in flight. -/
def flights (s : State) : List (Channel × Engine) := s.inFlight.map fun r => (r.channel, r.engine)

/-- The marks of the result entries. -/
def marks (s : State) : Channel → Bool := fun c => (s.result c).reserved

/-- The relation of `ReservationsAgree` between the three readings. -/
structure Agree (l : List Channel) (f : List (Channel × Engine)) (m : Channel → Bool) : Prop where
  pending : l.Nodup
  inFlight : (f.map (·.1)).Nodup
  marked : ∀ c, m c = true ↔ c ∈ f.map (·.1)
  engines : ∀ x ∈ f, x.2 = engineOf x.1
  localRoom : (f.filter fun x => decide (x.2 = .localEngine)).length ≤ 2
  remoteRoom : (f.filter fun x => decide (x.2 = .remoteEngine)).length ≤ 4

theorem inFlightOf_eq (s : State) (e : Engine) :
    s.inFlightOf e = ((flights s).filter fun x => decide (x.2 = e)).length := by
  simp [State.inFlightOf, flights, List.filter_map, Function.comp_def]

theorem reservationsAgree_iff (s : State) : s.ReservationsAgree ↔ Agree (pendingChannels s) (flights s) (marks s) := by
  have hchannels : (flights s).map (·.1) = s.inFlight.map (·.channel) := by simp [flights, Function.comp_def]
  have hengines : (∀ x ∈ flights s, x.2 = engineOf x.1) ↔ ∀ r ∈ s.inFlight, r.engine = engineOf r.channel := by
    simp [flights]
  constructor
  · rintro ⟨hp, hf, hm, he, hl, hr⟩
    rw [inFlightOf_eq] at hl hr
    exact ⟨hp, hchannels ▸ hf, fun c => hchannels ▸ hm c, hengines.2 he, hl, hr⟩
  · rintro ⟨hp, hf, hm, he, hl, hr⟩
    refine ⟨hp, hchannels ▸ hf, fun c => hchannels ▸ hm c, hengines.1 he, ?_, ?_⟩ <;> rw [inFlightOf_eq]
    · exact hl
    · exact hr

variable {l l' : List Channel} {f : List (Channel × Engine)} {m : Channel → Bool} {c : Channel} {e : Engine}

/-- The marks with the one of a channel set to a value. -/
def setMark (m : Channel → Bool) (c : Channel) (b : Bool) : Channel → Bool := fun d => if d = c then b else m d

theorem setMark_same (b : Bool) : setMark m c b c = b := if_pos rfl

theorem setMark_other {d : Channel} (h : d ≠ c) (b : Bool) : setMark m c b d = m d := if_neg h

theorem nodup_append_one {α : Type} {l : List α} {a : α} (h : l.Nodup) (ha : a ∉ l) : (l ++ [a]).Nodup := by
  rw [List.nodup_append]
  refine ⟨h, List.nodup_cons.2 ⟨List.not_mem_nil, List.nodup_nil⟩, fun b hb d hd hbd => ha ?_⟩
  rwa [hbd, List.mem_singleton.1 hd] at hb

/-! ## How they change together -/

theorem Agree.with_pending (h : Agree l f m) (hl : l'.Nodup) : Agree l' f m :=
  ⟨hl, h.inFlight, h.marked, h.engines, h.localRoom, h.remoteRoom⟩

theorem room_append (k : Engine) :
    ((f ++ [(c, e)]).filter fun x => decide (x.2 = k)).length =
      (f.filter fun x => decide (x.2 = k)).length + if e = k then 1 else 0 := by
  by_cases h : e = k <;> simp [List.filter_append, h]

/-- A take: the channel enters the conversions in flight and is marked (R50). -/
theorem Agree.take (h : Agree l f m) (hl : l'.Sublist l) (hc : m c = false) (he : e = engineOf c)
    (hroom : (f.filter fun x => decide (x.2 = e)).length < if e = .localEngine then 2 else 4) :
    Agree l' (f ++ [(c, e)]) (setMark m c true) := by
  have hnot : c ∉ f.map (·.1) := by rw [← h.marked c, hc]; simp
  refine ⟨h.pending.sublist hl, ?_, fun d => ?_, ?_, ?_, ?_⟩
  · rw [List.map_append]
    exact nodup_append_one h.inFlight hnot
  · by_cases hd : d = c
    · subst hd; simp [setMark_same]
    · rw [setMark_other hd]; simp [h.marked d, hd]
  · intro x hx
    rcases List.mem_append.1 hx with hx | hx
    · exact h.engines x hx
    · rw [List.mem_singleton.1 hx]; exact he
  · have hlocal := h.localRoom
    rw [room_append]
    cases e
    · exact hroom
    · exact hlocal
  · have hremote := h.remoteRoom
    rw [room_append]
    cases e
    · exact hremote
    · exact hroom

/-- The end of a conversion: its channel leaves the conversions in flight and is unmarked (R52, R61). -/
theorem Agree.leave (h : Agree l f m) (hl : l'.Nodup) :
    Agree l' (f.eraseP fun x => decide (x.1 = c)) (setMark m c false) := by
  have hsub := List.eraseP_sublist (p := fun x : Channel × Engine => decide (x.1 = c)) (l := f)
  have hmap : (f.eraseP fun x => decide (x.1 = c)).map (·.1) = (f.map (·.1)).erase c := by
    rw [List.erase_eq_eraseP, List.eraseP_map]
    congr 2
    funext x
    exact decide_eq_decide.2 eq_comm
  refine ⟨hl, h.inFlight.sublist (hsub.map _), fun d => ?_, fun x hx => h.engines x (hsub.subset hx), ?_, ?_⟩
  · rw [hmap, h.inFlight.mem_erase_iff]
    by_cases hd : d = c
    · subst hd; simp [setMark_same]
    · rw [setMark_other hd]; simp [h.marked d, hd]
  · exact Nat.le_trans (hsub.filter _).length_le h.localRoom
  · exact Nat.le_trans (hsub.filter _).length_le h.remoteRoom

end Readings

section Reservations

variable {s t : State} {p : Port}

/-! ## What the operations do to the readings -/

theorem pendingChannels_joinOrPlace {l : List PendingEntry} (c : Channel) (w : Waiter)
    (h : (l.map (·.channel)).Nodup) : ((joinOrPlace c w l).map (·.channel)).Nodup := by
  unfold joinOrPlace
  split
  · have hsame : ((·.channel) ∘ fun e : PendingEntry =>
        if e.channel = c then { e with waiters := addWaiter w e.waiters } else e) = (·.channel) := by
      funext e
      simp only [Function.comp]
      split <;> rfl
    rw [List.map_map, hsame]
    exact h
  · next hc =>
    rw [List.map_append]
    exact nodup_append_one h fun ha => hc (by simpa using ha)

theorem pendingChannels_requestConversion (i : SlotNo) (h : (pendingChannels s).Nodup) :
    (pendingChannels (s.requestConversion p i)).Nodup := by
  unfold State.requestConversion pendingChannels
  dsimp only
  split
  · simpa [pendingChannels] using h
  · simpa using pendingChannels_joinOrPlace _ _ h

theorem pendingChannels_filterMap {l : List PendingEntry} (f : PendingEntry → Option PendingEntry)
    (hf : ∀ e e', f e = some e' → e'.channel = e.channel) :
    ((l.filterMap f).map (·.channel)).Sublist (l.map (·.channel)) := by
  induction l with
  | nil => exact List.Sublist.refl _
  | cons e l ih =>
    rw [List.filterMap_cons]
    split
    · exact ih.cons _
    · next e' he => rw [List.map_cons, List.map_cons, hf e e' he]; exact ih.cons_cons _

theorem thinnedEntry_channel (chosen : Waiter → Bool) (e e' : PendingEntry) (h : thinnedEntry chosen e = some e') :
    e'.channel = e.channel := by
  unfold thinnedEntry at h
  dsimp only at h
  (repeat' split at h) <;> cases h <;> rfl

theorem pendingChannels_removeWaiters (chosen : Waiter → Bool) :
    (pendingChannels (s.removeWaiters chosen)).Sublist (pendingChannels s) :=
  pendingChannels_filterMap _ (thinnedEntry_channel chosen)

theorem flights_removeWaiters (chosen : Waiter → Bool) : flights (s.removeWaiters chosen) = flights s := by
  simp [flights, State.removeWaiters, Function.comp_def]

/-- What the lists and marks of two states have in common carries the relation over. -/
theorem Agree.congr (h : Agree (pendingChannels s) (flights s) (marks s)) (hp : (pendingChannels t).Nodup)
    (hf : flights t = flights s) (hr : t.results = s.results) :
    Agree (pendingChannels t) (flights t) (marks t) := by
  have hm : marks t = marks s := by funext c; simp only [marks, State.result, hr]
  rw [hf, hm]
  exact h.with_pending hp

theorem takeable_spec {b : Bool} {e : PendingEntry} (h : s.takeable b = some e) :
    e ∈ s.pendingList ∧ isLocal e.channel = b ∧ (s.result e.channel).reserved = false := by
  have hmem := List.mem_of_find?_eq_some h
  have hcond := List.find?_some h
  simp only [Bool.and_eq_true, beq_iff_eq, Bool.not_eq_true'] at hcond
  exact ⟨hmem, hcond.1, hcond.2⟩

theorem requeue_channels (r : ConversionRecord) {l : List PendingEntry} (h : (l.map (·.channel)).Nodup) :
    ((requeue r l).map (·.channel)).Nodup := by
  unfold requeue
  split
  · exact h
  · dsimp only
    rw [List.map_cons, List.nodup_cons]
    refine ⟨by simp, h.sublist (List.filter_sublist.map _)⟩

theorem flights_eraseP (c : Channel) :
    (s.inFlight.eraseP fun x => decide (x.channel = c)).map (fun r => (r.channel, r.engine)) =
      (flights s).eraseP fun x => decide (x.1 = c) := by
  rw [flights, List.eraseP_map]
  rfl

theorem marks_setResult {c : Channel} {x : ResultEntry} :
    marks (s.setResult c x) = setMark (marks s) c x.reserved := by
  funext d
  simp only [marks, State.result_setResult_eq, setMark]
  split
  · next h => subst h; rfl
  · rfl

/-! ## The invariant -/

theorem SharedEffect.keeps_agree (h : SharedEffect s t) (hs : Agree (pendingChannels s) (flights s) (marks s)) :
    Agree (pendingChannels t) (flights t) (marks t) := by
  have hp := hs.pending
  cases h with
  | internal h =>
    obtain ⟨-, -, -, hr, hl, -⟩ := h.frame
    refine hs.congr ?_ (h.inFlight_map _ fun _ _ => rfl) hr
    rwa [pendingChannels, hl]
  | queue | pins | clock | advance => exact hs
  | registers p x h => exact hs.congr (by simpa [pendingChannels] using hp) (by simp [flights]) (by simp)
  | convert p i c hi he =>
    refine hs.congr (pendingChannels_requestConversion i ?_) (by simp [flights]) (by simp)
    simpa [pendingChannels] using hp
  | watch p i c hi he =>
    refine hs.congr (pendingChannels_requestConversion i ?_) (by simp [flights]) (by simp)
    simpa [pendingChannels] using hp
  | dueDormant p i hd h =>
    refine hs.congr (pendingChannels_requestConversion i ?_) (by simp [flights]) (by simp)
    simpa [pendingChannels] using hp
  | dueWaiting p i hd h => exact hs.congr (by simpa [pendingChannels] using hp) (by simp [flights]) (by simp)
  | cancel p i h =>
    have hl : (pendingChannels (leftWaiters s p i)).Nodup := by
      unfold leftWaiters; split
      · exact hp.sublist (pendingChannels_removeWaiters _)
      · exact hp
    have hf : flights (leftWaiters s p i) = flights s := by
      unfold leftWaiters; split
      · exact flights_removeWaiters _
      · rfl
    have hr : (leftWaiters s p i).results = s.results := by unfold leftWaiters; split <;> simp
    exact hs.congr (by simpa [pendingChannels] using hl) (by simpa [flights] using hf) (by simpa using hr)
  | claim | endClaim | configureOn | openWindow | closeWindow | acknowledge =>
    exact hs.congr (by simpa [pendingChannels, granted, windowSet, windowCleared] using hp)
      (by simp [flights, granted, windowSet, windowCleared]) (by simp [granted, windowSet, windowCleared])
  | configureOff c h =>
    refine hs.congr ?_ (by simp [flights]) (by simp)
    rw [withdraw_eq]
    exact hp.sublist (List.filter_sublist.map _)
  | discard c =>
    unfold State.discard
    split
    · exact hs
    · next r _ =>
      have h := hs.leave (c := c) (requeue_channels r hp)
      rw [← flights_eraseP, show false = ({ s.result c with reserved := false } : ResultEntry).reserved from rfl,
        ← marks_setResult] at h
      exact h
  | clearPort p pin =>
    refine hs.congr ?_ ?_ (by simp [portCleared])
    · have hl := hp.sublist (pendingChannels_removeWaiters (s := s) fun w => decide (w.port = p))
      simpa [pendingChannels, portCleared] using hl
    · have hf := flights_removeWaiters (s := s) fun w => decide (w.port = p)
      simpa [flights, portCleared] using hf
  | resetDevice cause =>
    refine ⟨List.nodup_nil, List.nodup_nil, fun c => ?_, nofun, ?_, ?_⟩
    · simp [marks, State.resetDevice, State.deviceReset, State.result, ResultEntry.reset, flights]
    · exact Nat.zero_le _
    · exact Nat.zero_le _
  | take e x h hroom =>
    obtain ⟨hmem, hkind, hfree⟩ := takeable_spec h
    have hx : x = engineOf e.channel := by
      cases x <;> simp [engineOf, hkind]
    rw [inFlightOf_eq] at hroom
    have h := hs.take (c := e.channel) (e := x)
      (List.eraseP_sublist.map _ : ((s.pendingList.eraseP fun y => decide (y.channel = e.channel)).map
        (·.channel)).Sublist (pendingChannels s)) hfree hx hroom
    rw [show true = ({ s.result e.channel with reserved := true } : ResultEntry).reserved from rfl,
      ← marks_setResult] at h
    have hf : flights (s.startConversion x e) = flights s ++ [(e.channel, x)] := by
      simp [flights, State.startConversion, takenRecord]
    rw [hf]
    exact h
  | finish c r o h ho =>
    have h := hs.leave (c := c) hp
    rw [← flights_eraseP, show false = (completedEntry s c r o).reserved from rfl, ← marks_setResult] at h
    have hr : (finished s c r o).results = (s.setResult c (completedEntry s c r o)).results := by
      rw [finished, (State.deliverAll_frame _ _ _).2.2.2.2.1]
      rfl
    have hpending : pendingChannels (finished s c r o) = pendingChannels s := by simp [pendingChannels, finished]
    have hflights : flights (finished s c r o) =
        (s.inFlight.eraseP fun x => decide (x.channel = c)).map fun r => (r.channel, r.engine) := by
      simp [flights, finished]
    have hmarks : marks (finished s c r o) = marks (s.setResult c (completedEntry s c r o)) := by
      funext d
      simp only [marks, State.result, hr]
    rw [hpending, hflights, hmarks]
    exact h

/-- Settles O54: the three readings agree after every operation on the shared tables. -/
theorem stepKeepsReservations : Obligations.StepKeepsReservations := by
  intro s t hs h
  rw [reservationsAgree_iff] at hs ⊢
  exact step_keeps_shared (I := fun s => Agree (pendingChannels s) (flights s) (marks s))
    (fun he => he.keeps_agree) h hs

end Reservations

end Sys2Proof.Invariants

/-! The channel records (R1, R3, R12): claims and resets leave their fields, and a CONFIGURE writes fields it has checked. -/

namespace Sys2Proof.Invariants

open Sys2Proof.Machine Sys2Proof.Statement Sys2Proof.Claims Sys2Proof.Requests

section Channels

variable {s t : State} {p : Port} {c : Channel} {x y : ChannelRecord}

/-! ## Legal records -/

/-- The fields that the staging words ask for are in the ranges of R1 (R12). -/
theorem requestedFields_legal {st : Staging} {f : KindFields} (h : requestedFields c st = some f) (hx : x.fields = f) :
    x.Legal c := by
  unfold requestedFields at h
  split at h
  · next hk =>
    split at h
    · next hr =>
      cases h
      rw [Bool.and_eq_true, inRange_iff] at hr
      simp only [ChannelRecord.Legal, hx]
      exact ⟨hk, hr.1.1⟩
    · cases h
  · next hk =>
    split at h
    · next hr =>
      cases h
      obtain ⟨hlo, hhi, hs, hs', -⟩ := remoteInRange_iff.1 hr
      simp only [ChannelRecord.Legal, hx, BitVec.toNat_setWidth]
      exact ⟨Bool.eq_false_iff.2 hk, by omega, fun _ => by omega⟩
    · cases h

/-- Only the fields and whether the channel is ON enter. -/
theorem legal_congr (h : x.Legal c) (hf : y.fields = x.fields) (he : y.enable = true → x.enable = true) : y.Legal c := by
  unfold ChannelRecord.Legal at *
  rw [hf]
  cases hx : x.fields with
  | localKind => simpa only [hx] using h
  | remoteKind =>
    simp only [hx] at h
    exact ⟨h.1, h.2.1, fun hy => h.2.2 (he hy)⟩

theorem legal_reset (c : Channel) : (ChannelRecord.reset c).Legal c := by
  unfold ChannelRecord.Legal ChannelRecord.reset isLocal
  by_cases h : c.val < 8 <;> simp [h]

/-! ## One record changed -/

theorem channelsLegal_congr (h : s.ChannelsLegal) (ht : t.channels = s.channels) : t.ChannelsLegal := by
  simpa only [State.ChannelsLegal, State.channel, ht] using h

/-- A record written keeps the tables legal when it is legal, shares its address with no other channel that is ON, and has
no expiry without a holder. -/
theorem channelsLegal_setChannel (h : s.ChannelsLegal) (hl : x.Legal c)
    (ha : ∀ d, d ≠ c → x.enable = true → (s.channel d).enable = true →
      x.fields.address = none ∨ x.fields.address ≠ (s.channel d).fields.address)
    (hh : x.holder = none → x.expiry = 0) : (s.setChannel c x).ChannelsLegal := by
  obtain ⟨hlegal, haddr, hexp⟩ := h
  simp only [State.ChannelsLegal, State.channel_setChannel_eq]
  refine ⟨fun d => ?_, fun d e hde => ?_, fun d => ?_⟩
  · split
    · next hd => exact hd ▸ hl
    · exact hlegal d
  · by_cases hd : d = c <;> by_cases he : e = c
    · exact absurd (hd.trans he.symm) hde
    · simpa only [if_pos hd, if_neg he] using ha e he
    · simp only [if_neg hd, if_pos he]
      intro hon hon'
      rcases ha d hd hon' hon with hnone | hne
      · rw [hnone]; exact Classical.em _
      · exact .inr hne.symm
    · simpa only [if_neg hd, if_neg he] using haddr d e hde
  · split
    · exact hh
    · exact hexp d

/-- The address of a record that keeps its fields is as free as before. -/
theorem channelsLegal_address (h : s.ChannelsLegal) (hf : x.fields = (s.channel c).fields)
    (he : x.enable = true → (s.channel c).enable = true) (d : Channel) (hd : d ≠ c) (hx : x.enable = true)
    (hd' : (s.channel d).enable = true) :
    x.fields.address = none ∨ x.fields.address ≠ (s.channel d).fields.address := by
  rw [hf]
  exact h.2.1 c d hd.symm (he hx) hd'

theorem addressInUse_eq_false {f : KindFields} (h : s.addressInUse c f = false) (d : Channel) (hd : d ≠ c)
    (hon : (s.channel d).enable = true) : f.address = none ∨ f.address ≠ (s.channel d).fields.address := by
  cases f with
  | localKind => exact .inl rfl
  | remoteKind address settle limit =>
    refine .inr fun he => ?_
    have hused := (addressInUse_remoteKind_iff (s := s) (ch := c) address settle limit).2 ⟨d, hd, hon, he.symm⟩
    rw [h] at hused
    cases hused

/-! ## The operations -/

theorem channelsLegal_granted (h : s.ChannelsLegal) (d : Word) : (granted s c p d).ChannelsLegal :=
  channelsLegal_congr (channelsLegal_setChannel
    (x := { s.channel c with holder := some p, expiry := s.now + d.setWidth 32 }) h (legal_congr (h.1 c) rfl id)
    (channelsLegal_address h rfl id) nofun) rfl

theorem channelsLegal_endClaim (h : s.ChannelsLegal) : (s.endClaim c).ChannelsLegal :=
  channelsLegal_congr (channelsLegal_setChannel (x := { s.channel c with holder := none, expiry := 0 }) h
    (legal_congr (h.1 c) rfl id) (channelsLegal_address h rfl id) fun _ => rfl) rfl

theorem channelsLegal_switchedOn {st : Staging} {f : KindFields} {b : Bool} (h : s.ChannelsLegal)
    (hf : requestedFields c st = some f) (ha : s.addressInUse c f = false) :
    (s.setChannel c (switchedOn (s.channel c) b f)).ChannelsLegal :=
  channelsLegal_setChannel h (requestedFields_legal hf rfl) (fun d hd _ hon => addressInUse_eq_false ha d hd hon) (h.2.2 c)

theorem channelsLegal_switchedOff (h : s.ChannelsLegal) :
    (s.setChannel c (switchedOff (s.channel c))).ChannelsLegal :=
  channelsLegal_setChannel h (legal_congr (h.1 c) rfl nofun) (fun _ _ hx => nomatch hx) (h.2.2 c)

theorem freedClaim_fields (x : ChannelRecord) :
    (freedClaim p x).fields = x.fields ∧ (freedClaim p x).enable = x.enable := by
  unfold freedClaim
  split <;> exact ⟨rfl, rfl⟩

theorem channel_portCleared (pin : Level) (c : Channel) :
    (portCleared s p pin).channel c = freedClaim p (s.channel c) := by
  simp [portCleared, State.channel]

theorem channelsLegal_portCleared (h : s.ChannelsLegal) (pin : Level) : (portCleared s p pin).ChannelsLegal := by
  obtain ⟨hlegal, haddr, hexp⟩ := h
  simp only [State.ChannelsLegal, channel_portCleared]
  refine ⟨fun c => ?_, fun c d hcd => ?_, fun c hc => ?_⟩
  · obtain ⟨hf, he⟩ := freedClaim_fields (p := p) (s.channel c)
    exact legal_congr (hlegal c) hf fun hx => he ▸ hx
  · simpa only [freedClaim_fields] using haddr c d hcd
  · unfold freedClaim at hc ⊢
    split
    · rfl
    · next hp => rw [if_neg hp] at hc; exact hexp c hc

theorem channelsLegal_reset (cause : ResetCause) : (s.resetDevice cause).ChannelsLegal := by
  have hreset (c : Channel) : (s.resetDevice cause).channel c = ChannelRecord.reset c := by
    simp [State.resetDevice, State.deviceReset, State.channel]
  simp only [State.ChannelsLegal, hreset]
  exact ⟨legal_reset, fun c d _ => nofun, fun _ _ => rfl⟩

theorem SharedEffect.keeps_channelsLegal (h : SharedEffect s t) (hs : s.ChannelsLegal) : t.ChannelsLegal := by
  cases h with
  | internal h => exact channelsLegal_congr hs h.frame.2.2.1
  | queue | pins | clock | advance => exact channelsLegal_congr hs rfl
  | registers | convert | watch | dueDormant | dueWaiting | openWindow | closeWindow | discard | acknowledge | take =>
    exact channelsLegal_congr hs (by simp [windowSet, windowCleared])
  | cancel p i h => exact channelsLegal_congr hs (by unfold leftWaiters; split <;> simp)
  | claim p c d => exact channelsLegal_granted hs d
  | endClaim c => exact channelsLegal_endClaim hs
  | configureOn p c f hf ha => exact channelsLegal_switchedOn hs hf ha
  | configureOff c h => exact channelsLegal_congr (channelsLegal_switchedOff (c := c) hs) (by simp)
  | clearPort p pin => exact channelsLegal_portCleared hs pin
  | resetDevice cause => exact channelsLegal_reset cause
  | finish c r o h ho => exact channelsLegal_congr hs (by simp [finished])

/-- Settles O55: no operation on the shared tables makes a record illegal. -/
theorem stepKeepsChannelsLegal : Obligations.StepKeepsChannelsLegal :=
  fun _ _ hs h => step_keeps_shared (fun he => he.keeps_channelsLegal) h hs

end Channels

end Sys2Proof.Invariants

/-! Deadlines (R146): what each operation does to the items that have a deadline or an expiry not yet taken, and the two
relations that stand on it. -/

namespace Sys2Proof.Invariants

open Sys2Proof.Machine Sys2Proof.Statement Sys2Proof.Claims Sys2Proof.Requests

section Items

variable {s t : State} {p : Port} {i j : DeadlineItem}

/-! ## The items of a Timebase -/

/-- The items of the deadlines and of the expiries not yet taken. -/
def timedItems (t : Timebase) : List DeadlineItem := t.deadlines.map (·.item) ++ t.delivered

theorem hasDeadline_iff_mem : s.HasDeadline i ↔ i ∈ timedItems s.timebase := List.mem_append.symm

theorem hasDeadline_congr (h : t.timebase = s.timebase) : t.HasDeadline i ↔ s.HasDeadline i := by
  rw [hasDeadline_iff_mem, hasDeadline_iff_mem, h]

theorem hasDeadline_of_delivered (h : i ∈ s.timebase.delivered) : s.HasDeadline i := .inr h

theorem timedItems_dropAll (t : Timebase) (f : DeadlineItem → Bool) :
    timedItems (t.dropAll f) = (timedItems t).filter fun i => !f i := by
  simp only [timedItems, Timebase.dropAll, List.filter_append, List.filter_map]
  rfl

theorem hasDeadline_dropAll {f : DeadlineItem → Bool} (h : t.timebase = s.timebase.dropAll f) :
    t.HasDeadline i ↔ s.HasDeadline i ∧ f i = false := by
  simp [hasDeadline_iff_mem, h, timedItems_dropAll]

@[simp] theorem hasDeadline_dropDeadline : (s.dropDeadline i).HasDeadline j ↔ s.HasDeadline j ∧ j ≠ i := by
  rw [hasDeadline_dropAll (s := s) (f := fun k => decide (k = i)) rfl, decide_eq_false_iff_not]

theorem timedItems_placeDeadline (x : Stamp) :
    (timedItems (s.placeDeadline i x).timebase).Perm (i :: (timedItems s.timebase).filter fun j => !decide (j = i)) := by
  rw [← timedItems_dropAll]
  simp only [timedItems, State.placeDeadline, List.map_append, List.append_assoc]
  exact List.perm_middle

@[simp] theorem hasDeadline_placeDeadline {x : Stamp} :
    (s.placeDeadline i x).HasDeadline j ↔ j = i ∨ s.HasDeadline j := by
  rw [hasDeadline_iff_mem, hasDeadline_iff_mem, (timedItems_placeDeadline x).mem_iff]
  by_cases h : j = i <;> simp [h]

theorem timedItems_advance (t : Timebase) : (timedItems t.advance).Perm (timedItems t) := by
  have hsplit := List.filter_append_perm (fun d : Deadline => decide (d.stamp ≠ t.tick + 1)) t.deadlines
  have hrest : (t.deadlines.filter fun d => !decide (d.stamp ≠ t.tick + 1)) =
      t.deadlines.filter fun d => decide (d.stamp = t.tick + 1) :=
    List.filter_congr fun d _ => by simp
  rw [hrest] at hsplit
  have hmap := (hsplit.map (·.item)).append_right t.delivered
  rw [List.map_append, List.append_assoc] at hmap
  exact (List.perm_append_comm.append_left _).trans hmap

theorem hasDeadline_advance :
    ({ s with timebase := s.timebase.advance } : State).HasDeadline i ↔ s.HasDeadline i := by
  rw [hasDeadline_iff_mem, hasDeadline_iff_mem, (timedItems_advance s.timebase).mem_iff]

/-! ## The operations -/

@[simp] theorem hasDeadline_setPort {x : PortState} : (s.setPort p x).HasDeadline i ↔ s.HasDeadline i :=
  hasDeadline_congr (by simp)

@[simp] theorem hasDeadline_setSlot {k : SlotNo} {x : Slot} : (s.setSlot p k x).HasDeadline i ↔ s.HasDeadline i :=
  hasDeadline_congr (by simp)

@[simp] theorem hasDeadline_setChannel {c : Channel} {x : ChannelRecord} :
    (s.setChannel c x).HasDeadline i ↔ s.HasDeadline i := hasDeadline_congr rfl

@[simp] theorem hasDeadline_requestConversion {k : SlotNo} :
    (s.requestConversion p k).HasDeadline i ↔ s.HasDeadline i := hasDeadline_congr (by simp)

@[simp] theorem hasDeadline_discard {c : Channel} : (s.discard c).HasDeadline i ↔ s.HasDeadline i :=
  hasDeadline_congr (by simp)

@[simp] theorem hasDeadline_startConversion {e : PendingEntry} {x : Engine} :
    (s.startConversion x e).HasDeadline i ↔ s.HasDeadline i := hasDeadline_congr (by simp)

@[simp] theorem hasDeadline_finished {c : Channel} {r : ConversionRecord} {o : ConversionOutcome} :
    (finished s c r o).HasDeadline i ↔ s.HasDeadline i := hasDeadline_congr (by simp [finished])

theorem leftWaiters_timebase (k : SlotNo) : (leftWaiters s p k).timebase = s.timebase := by
  unfold leftWaiters
  split <;> simp

/-- The due deadline that the end of a slot's request drops. -/
def dueOf (s : State) (p : Port) (k : SlotNo) : DeadlineItem → Bool :=
  fun i => decide ((s.slot p k).kind = .watch) && decide (i = .watchDue p k)

theorem endSlot_timebase (k : SlotNo) (d : Disposition) :
    (s.endSlot p k d).timebase = s.timebase.dropAll (dueOf s p k) := by
  rw [endSlot_eq, State.setPort_timebase]
  by_cases h : (s.slot p k).kind = .watch
  · rw [if_pos h, ← dropDeadline_eq, show dueOf s p k = fun i => decide (i = .watchDue p k) by
      funext i; simp [dueOf, h]]
    rfl
  · rw [if_neg h, show dueOf s p k = fun _ => false by funext i; simp [dueOf, h], dropAll_none]

theorem leftWaiters_slot (k k' : SlotNo) (q : Port) : (leftWaiters s p k).slot q k' = s.slot q k' := by
  rw [State.slot, leftWaiters_port, State.slot]

theorem cancelled_timebase (k : SlotNo) :
    ((leftWaiters s p k).endSlot p k .cancelled).timebase = s.timebase.dropAll (dueOf s p k) := by
  rw [endSlot_timebase, leftWaiters_timebase]
  congr 1
  funext i
  simp only [dueOf, leftWaiters_slot]

theorem withdraw_timebase (c : Channel) : (s.withdraw c).timebase = s.timebase.dropAll (duesOn s c) := by
  rw [withdraw_eq]

theorem portCleared_timebase (pin : Level) :
    (portCleared s p pin).timebase = s.timebase.dropAll (s.ownsDeadline p) := by simp [portCleared]

theorem hasDeadline_resetDevice (cause : ResetCause) : ¬ (s.resetDevice cause).HasDeadline i :=
  fun h => by rcases h with h | h <;> cases h

theorem hasDeadline_pins {l : Level} {x : BusController} :
    ({ s with resetN := l, bus := x } : State).HasDeadline i ↔ s.HasDeadline i := Iff.rfl

/-- Internal work leaves the deadlines of every other block. -/
theorem Internal.hasDeadline (h : Internal s t) (hi : isEngineItem i = false) : t.HasDeadline i ↔ s.HasDeadline i := by
  induction h with
  | trans _ _ h h' => exact h'.trans h
  | dropDeadline s k hk =>
    rw [hasDeadline_dropDeadline, and_iff_left]
    rintro rfl
    rw [hi] at hk
    cases hk
  | placeDeadline s k x hk =>
    rw [hasDeadline_placeDeadline, or_iff_right]
    rintro rfl
    rw [hi] at hk
    cases hk
  | _ => exact Iff.rfl

/-! ## One deadline for an item -/

theorem deadlinesUnique_iff : s.DeadlinesUnique ↔ (timedItems s.timebase).Nodup := Iff.rfl

theorem deadlinesUnique_congr (h : s.DeadlinesUnique) (ht : t.timebase = s.timebase) : t.DeadlinesUnique := by
  rwa [deadlinesUnique_iff, ht]

theorem deadlinesUnique_dropAll {f : DeadlineItem → Bool} (h : s.DeadlinesUnique)
    (ht : t.timebase = s.timebase.dropAll f) : t.DeadlinesUnique := by
  rw [deadlinesUnique_iff, ht, timedItems_dropAll]
  exact List.Pairwise.filter _ h

theorem deadlinesUnique_dropDeadline (h : s.DeadlinesUnique) : (s.dropDeadline i).DeadlinesUnique :=
  deadlinesUnique_dropAll (f := fun j => decide (j = i)) h rfl

theorem deadlinesUnique_placeDeadline {x : Stamp} (h : s.DeadlinesUnique) : (s.placeDeadline i x).DeadlinesUnique := by
  rw [deadlinesUnique_iff, (timedItems_placeDeadline x).nodup_iff, List.nodup_cons]
  exact ⟨by simp, List.Pairwise.filter _ h⟩

theorem Internal.deadlinesUnique (h : Internal s t) (hs : s.DeadlinesUnique) : t.DeadlinesUnique := by
  induction h with
  | trans _ _ h h' => exact h' (h hs)
  | dropDeadline => exact deadlinesUnique_dropDeadline hs
  | placeDeadline => exact deadlinesUnique_placeDeadline hs
  | _ => exact hs

theorem SharedEffect.keeps_deadlinesUnique (h : SharedEffect s t) (hs : s.DeadlinesUnique) : t.DeadlinesUnique := by
  cases h with
  | internal h => exact h.deadlinesUnique hs
  | queue | pins | clock => exact hs
  | registers | convert | acknowledge | discard | take =>
    exact deadlinesUnique_congr hs (by simp)
  | configureOn => exact deadlinesUnique_congr hs rfl
  | watch p i c hi he =>
    have hplaced : ((s.setSlot p i (watchSlot (s.staging p) c (s.firstDue p))).placeDeadline (.watchDue p i)
        (s.firstDue p)).DeadlinesUnique := deadlinesUnique_placeDeadline (deadlinesUnique_congr hs (by simp))
    exact deadlinesUnique_congr hplaced (by simp)
  | dueDormant p i hd h =>
    have hplaced : ((s.setSlot p i { s.slot p i with nextDue := nextDue (s.slot p i) }).placeDeadline (.watchDue p i)
        (nextDue (s.slot p i))).DeadlinesUnique := deadlinesUnique_placeDeadline (deadlinesUnique_congr hs (by simp))
    exact deadlinesUnique_congr hplaced (by simp)
  | dueWaiting => exact deadlinesUnique_placeDeadline (deadlinesUnique_congr hs (by simp))
  | cancel p i h => exact deadlinesUnique_dropAll hs (cancelled_timebase i)
  | claim => exact deadlinesUnique_placeDeadline (deadlinesUnique_congr hs rfl)
  | endClaim => exact deadlinesUnique_dropDeadline (deadlinesUnique_congr hs rfl)
  | configureOff c h => exact deadlinesUnique_dropAll (deadlinesUnique_congr hs rfl) (withdraw_timebase c)
  | openWindow => exact deadlinesUnique_placeDeadline (deadlinesUnique_congr hs (by simp))
  | closeWindow => exact deadlinesUnique_dropDeadline (deadlinesUnique_congr hs (by simp))
  | clearPort p pin => exact deadlinesUnique_dropAll hs (portCleared_timebase pin)
  | resetDevice => exact List.nodup_nil
  | finish => exact deadlinesUnique_congr hs (by simp [finished])
  | advance => exact (timedItems_advance s.timebase).nodup_iff.2 hs

/-! ## Claims and windows have their deadlines -/

/-- Nothing changed of the holders, the windows and their deadlines. -/
theorem heldDeadlines_congr (h : s.HeldDeadlinesAgree)
    (hc : ∀ c : Channel, (t.HasDeadline (.claim c) ↔ s.HasDeadline (.claim c))
      ∧ ((t.channel c).holder = none ↔ (s.channel c).holder = none))
    (hq : ∀ q : Port, (t.HasDeadline (.quietEnd q) ↔ s.HasDeadline (.quietEnd q))
      ∧ ((t.port q).quietEnd = none ↔ (s.port q).quietEnd = none)) : t.HeldDeadlinesAgree :=
  ⟨fun c => (hc c).1.trans ((h.1 c).trans (not_congr (hc c).2.symm)),
    fun q => (hq q).1.trans ((h.2 q).trans (not_congr (hq q).2.symm))⟩

/-! Operations on slots leave every window. -/

theorem quietEnd_setPort {x : PortState} (h : x.quietEnd = (s.port p).quietEnd) (q : Port) :
    ((s.setPort p x).port q).quietEnd = (s.port q).quietEnd := by
  rw [State.port_setPort_eq]
  split
  · next hq => rw [h, hq]
  · rfl

@[simp] theorem quietEnd_setSlot (k : SlotNo) (y : Slot) (q : Port) :
    ((s.setSlot p k y).port q).quietEnd = (s.port q).quietEnd := quietEnd_setPort (by rfl) q

theorem quietEnd_deliver (k : SlotNo) (o : Source) (part : ResultPart) (q : Port) :
    ((s.deliver p k o part).port q).quietEnd = (s.port q).quietEnd := by
  have happend (u : State) (r : ResponseRecord) : ((u.appendRecord p r).port q).quietEnd = (u.port q).quietEnd :=
    quietEnd_setPort (by rfl) q
  have hchange (u : State) (f : ResponseRecord → ResponseRecord) :
      ((u.changeRecord p k f).port q).quietEnd = (u.port q).quietEnd := quietEnd_setPort (by rfl) q
  unfold State.deliver
  dsimp only
  split
  · rw [happend, quietEnd_setSlot]
  · split
    · rw [hchange, quietEnd_setSlot]
    · rw [happend, quietEnd_setSlot]

@[simp] theorem quietEnd_requestConversion (k : SlotNo) (q : Port) :
    ((s.requestConversion p k).port q).quietEnd = (s.port q).quietEnd := by
  unfold State.requestConversion
  dsimp only
  split
  · exact quietEnd_deliver ..
  · rw [port_withPendingList, quietEnd_setSlot]

@[simp] theorem quietEnd_endSlot (k : SlotNo) (d : Disposition) (q : Port) :
    ((s.endSlot p k d).port q).quietEnd = (s.port q).quietEnd := by
  rw [endSlot_eq, quietEnd_setPort]
  · split
    · cases q <;> rfl
    · rfl
  · unfold endedPort
    dsimp only
    split <;> split <;> cases p <;> rfl

@[simp] theorem quietEnd_withdraw (c : Channel) (q : Port) :
    ((s.withdraw c).port q).quietEnd = (s.port q).quietEnd := by
  rw [withdraw_eq]
  cases q <;> rfl

@[simp] theorem quietEnd_finished (c : Channel) (r : ConversionRecord) (o : ConversionOutcome) (q : Port) :
    ((finished s c r o).port q).quietEnd = (s.port q).quietEnd := by
  rw [finished, Responses.deliverAll_eq]
  cases q <;> rfl

@[simp] theorem port_discard (c : Channel) (q : Port) : (s.discard c).port q = s.port q := by
  cases q <;> simp [State.port]

@[simp] theorem port_startConversion (e : PendingEntry) (x : Engine) (q : Port) :
    (s.startConversion x e).port q = s.port q := by
  cases q <;> rfl

theorem Internal.port (h : Internal s t) (q : Port) : t.port q = s.port q := by
  obtain ⟨-, -, -, -, -, ha, hb, -⟩ := h.frame
  cases q
  · exact ha
  · exact hb

theorem heldDeadlines_of_slots (h : s.HeldDeadlinesAgree) (hchannels : t.channels = s.channels)
    (hd : ∀ i, (∀ q k, i ≠ .watchDue q k) → isEngineItem i = false → (t.HasDeadline i ↔ s.HasDeadline i))
    (hq : ∀ q, (t.port q).quietEnd = (s.port q).quietEnd) : t.HeldDeadlinesAgree :=
  heldDeadlines_congr h
    (fun c => ⟨hd _ nofun rfl, by simp only [State.channel, hchannels]⟩)
    (fun q => ⟨hd _ nofun rfl, by rw [hq q]⟩)

theorem SharedEffect.keeps_heldDeadlines (h : SharedEffect s t) (hs : s.HeldDeadlinesAgree) : t.HeldDeadlinesAgree := by
  cases h with
  | internal h =>
    exact heldDeadlines_of_slots hs h.frame.2.2.1 (fun i _ hi => h.hasDeadline hi) fun q => by rw [h.port q]
  | queue | pins | clock => exact hs
  | advance => exact heldDeadlines_of_slots hs rfl (fun i _ _ => hasDeadline_advance) fun q => by cases q <;> rfl
  | registers p x h => exact heldDeadlines_of_slots hs (by simp) (fun i _ _ => by simp) (quietEnd_setPort h.quietEnd)
  | acknowledge => exact heldDeadlines_of_slots hs (by simp) (fun i _ _ => by simp) (quietEnd_setPort (by rfl))
  | convert | discard | take | finish =>
    exact heldDeadlines_of_slots hs (by simp [finished]) (fun i _ _ => by simp) (fun q => by simp)
  | watch | dueDormant | dueWaiting =>
    exact heldDeadlines_of_slots hs (by simp) (fun i hi _ => by simp [hi]) (fun q => by simp)
  | cancel p i h =>
    refine heldDeadlines_of_slots hs (by unfold leftWaiters; split <;> simp) (fun j hj _ => ?_) (fun q => by
      rw [quietEnd_endSlot, leftWaiters_port])
    rw [hasDeadline_dropAll (cancelled_timebase i), and_iff_left (by simp [dueOf, hj])]
  | configureOff c h =>
    refine heldDeadlines_congr hs (fun d => ⟨?_, ?_⟩) (fun q => ⟨?_, by simp⟩)
    · rw [hasDeadline_dropAll (withdraw_timebase c), and_iff_left (by rfl), hasDeadline_setChannel]
    · rw [show ((s.setChannel c (switchedOff (s.channel c))).withdraw c).channel d =
        (s.setChannel c (switchedOff (s.channel c))).channel d by simp [State.channel],
        State.channel_setChannel_eq]
      split
      · next hd => subst hd; rfl
      · rfl
    · rw [hasDeadline_dropAll (withdraw_timebase c), and_iff_left (by rfl), hasDeadline_setChannel]
  | configureOn p c f hf ha =>
    refine heldDeadlines_congr hs (fun d => ⟨by simp, ?_⟩) (fun q => ⟨by simp, by simp⟩)
    rw [State.channel_setChannel_eq]
    split
    · next hd => subst hd; rfl
    · rfl
  | claim p c d =>
    refine ⟨fun e => ?_, fun q => by simpa [granted] using hs.2 q⟩
    rw [granted, hasDeadline_placeDeadline, State.channel_placeDeadline, State.channel_setChannel_eq,
      hasDeadline_setChannel]
    by_cases he : e = c
    · simp [he]
    · simpa [he] using hs.1 e
  | endClaim c =>
    refine ⟨fun e => ?_, fun q => by simpa [State.endClaim] using hs.2 q⟩
    rw [State.endClaim, hasDeadline_dropDeadline, State.channel_dropDeadline, State.channel_setChannel_eq,
      hasDeadline_setChannel]
    by_cases he : e = c
    · simp [he]
    · simpa [he] using hs.1 e
  | openWindow p x =>
    refine ⟨fun e => by simpa [windowSet] using hs.1 e, fun q => ?_⟩
    rw [windowSet, hasDeadline_placeDeadline, State.port_placeDeadline, State.port_setPort_eq, hasDeadline_setPort]
    by_cases hq : q = p
    · simp [hq]
    · simpa [hq] using hs.2 q
  | closeWindow p =>
    refine ⟨fun e => by simpa [windowCleared] using hs.1 e, fun q => ?_⟩
    rw [windowCleared, hasDeadline_dropDeadline, State.port_dropDeadline, State.port_setPort_eq, hasDeadline_setPort]
    by_cases hq : q = p
    · simp [hq]
    · simpa [hq] using hs.2 q
  | clearPort p pin =>
    refine ⟨fun c => ?_, fun q => ?_⟩
    · rw [hasDeadline_dropAll (portCleared_timebase pin), channel_portCleared, hs.1 c]
      by_cases hp : (s.channel c).holder = some p <;> simp [State.ownsDeadline, freedClaim, hp]
    · rw [hasDeadline_dropAll (portCleared_timebase pin), hs.2 q]
      by_cases hq : q = p
      · simp [State.ownsDeadline, portCleared, PortState.reset, hq]
      · have hport : (portCleared s p pin).port q = s.port q := by
          rw [portCleared, State.port_setPort_of_ne _ _ _ _ hq]
          cases q <;> rfl
        simp [State.ownsDeadline, hport, hq]
  | resetDevice cause =>
    refine ⟨fun c => iff_of_false (hasDeadline_resetDevice cause) (Classical.not_not.2 ?_), fun q =>
      iff_of_false (hasDeadline_resetDevice cause) (Classical.not_not.2 ?_)⟩
    · simp [State.resetDevice, State.deviceReset, State.channel, ChannelRecord.reset]
    · rw [resetDevice_port]
      rfl

/-- Settles O57: the two relations are kept each alone. -/
theorem stepKeepsDeadlinesUnique : Obligations.StepKeepsDeadlinesUnique :=
  fun _ _ h => ⟨step_keeps_shared (fun he => he.keeps_deadlinesUnique) h,
    step_keeps_shared (fun he => he.keeps_heldDeadlines) h⟩

end Items

end Sys2Proof.Invariants

/-! The converter and quiet (R60, R62, R96 to R98, R102): the relation as one of the converter and of whether quiet is active,
then each event of the converter, then the events that open and close windows. -/

namespace Sys2Proof.Invariants

open Sys2Proof.Machine Sys2Proof.Statement Sys2Proof.Claims Sys2Proof.Requests

section Relation

/-! ## The relation -/

/-- `ConverterObeysQuiet` without the count of FAST periods. -/
structure Obeys (x : Converter) (quiet : Bool) : Prop where
  held : x.state = .held → quiet = true
  active : quiet = true → x.state.counting = false ∧ x.state ≠ .idle
  stopped : x.state.counting = false → x.cycleCounter = 0 ∧ x.spanCounter = 0 ∧ x.wave = .low
  span : x.state.inSense = true → x.spanCounter ≠ 0

variable {s t : State} {x : Converter} {q : Bool}

theorem converterObeysQuiet_iff :
    s.ConverterObeysQuiet ↔ Obeys s.converter s.quietActive ∧ s.timebase.subTick.toNat ≤ 128 :=
  ⟨fun ⟨h1, h2, h3, h4, h5⟩ => ⟨⟨h1, h2, h3, h4⟩, h5⟩, fun ⟨⟨h1, h2, h3, h4⟩, h5⟩ => ⟨h1, h2, h3, h4, h5⟩⟩

theorem quietActive_congr (ha : t.portA.quietEnd = s.portA.quietEnd) (hb : t.portB.quietEnd = s.portB.quietEnd) :
    t.quietActive = s.quietActive := by rw [State.quietActive, State.quietActive, ha, hb]

theorem Internal.quietActive (h : Internal s t) : t.quietActive = s.quietActive := by
  obtain ⟨-, -, -, -, -, ha, hb, -⟩ := h.frame
  rw [State.quietActive, ha, hb, State.quietActive]

/-- A converter that counts says that no window is open. -/
theorem Obeys.quiet_of_counting (h : Obeys x q) (hc : x.state.counting = true) : q = false := by
  cases q
  · rfl
  · rw [(h.active rfl).1] at hc
    cases hc

theorem obeys_reset : Obeys Converter.reset false := ⟨nofun, nofun, fun _ => ⟨rfl, rfl, rfl⟩, nofun⟩

theorem obeys_ref {cur : Current} (hx : x.state = .ref cur) : Obeys x false := by
  obtain ⟨xs, n, m, l⟩ := x
  cases hx
  exact ⟨nofun, nofun, nofun, nofun⟩

theorem obeys_sense {cur : Current} (hx : x.state = .sense cur) (hm : x.spanCounter ≠ 0) : Obeys x false := by
  obtain ⟨xs, n, m, l⟩ := x
  cases hx
  exact ⟨nofun, nofun, nofun, fun _ => hm⟩

theorem obeys_ratioWait (cur : Current) (j : Job) : Obeys ⟨.ratioWait cur j, 0, 0, .low⟩ q :=
  ⟨nofun, fun _ => ⟨rfl, nofun⟩, fun _ => ⟨rfl, rfl, rfl⟩, nofun⟩

theorem obeys_held : Obeys ⟨.held, 0, 0, .low⟩ true := ⟨fun _ => rfl, fun _ => ⟨rfl, nofun⟩, fun _ => ⟨rfl, rfl, rfl⟩, nofun⟩

theorem obeys_handedOff : Obeys s.converterHandedOff s.quietActive := by
  unfold State.converterHandedOff
  cases s.quietActive
  · exact obeys_reset
  · exact obeys_held

end Relation

section Converter

variable {s t : State}

/-! ## The converter's own events -/

theorem localError_obeys (cur : Current) (status : Status) (hq : s.quietActive = false) :
    Obeys (s.localError cur status).converter s.quietActive := by
  rw [hq]
  exact obeys_reset

theorem endReference_obeys (cur : Current) (hq : s.quietActive = false) :
    Obeys (s.endReference cur).converter s.quietActive := by
  unfold State.endReference
  split
  · next hspan =>
    rw [hq]
    refine obeys_sense rfl fun h => ?_
    rw [h] at hspan
    exact absurd hspan (by decide)
  · exact localError_obeys cur _ hq

theorem endSensing_obeys (cur : Current) (hq : s.quietActive = false) :
    Obeys (s.endSensing cur).converter s.quietActive := by
  unfold State.endSensing State.offerLocal
  split
  · exact localError_obeys cur _ hq
  · split
    · exact obeys_handedOff
    · exact obeys_ratioWait _ _

theorem oscillatorCycle_obeys (h : Obeys s.converter s.quietActive) :
    Obeys s.oscillatorCycle.converter s.quietActive := by
  unfold State.oscillatorCycle
  split
  · next cur hs =>
    have hq := h.quiet_of_counting (by rw [hs]; rfl)
    split
    · exact endReference_obeys cur hq
    · rw [hq]
      exact obeys_ref hs
  · next cur hs =>
    have hq := h.quiet_of_counting (by rw [hs]; rfl)
    split
    · exact localError_obeys cur _ hq
    · rw [hq]
      exact obeys_sense hs (h.span (by rw [hs]; rfl))
  all_goals exact h

/-- While the oscillator runs its level is free. -/
theorem Obeys.with_wave {x : Converter} {q : Bool} (h : Obeys x q) (hc : x.state.counting = true) (l : Level) :
    Obeys { x with wave := l } q :=
  ⟨h.held, h.active, fun hc' => absurd (hc.symm.trans hc') (by decide), h.span⟩

theorem halfCycle_obeys (h : Obeys s.converter s.quietActive) : Obeys s.halfCycle.converter s.quietActive := by
  unfold State.halfCycle
  split
  · next hc =>
    split
    · exact h.with_wave hc .high
    · exact oscillatorCycle_obeys (s := { s with converter := { s.converter with wave := .low } }) (h.with_wave hc .low)
  · exact h

theorem spanPeriod_obeys (h : Obeys s.converter s.quietActive) : Obeys s.spanPeriod.converter s.quietActive := by
  unfold State.spanPeriod
  split
  · next cur hs =>
    have hq := h.quiet_of_counting (by rw [hs]; rfl)
    split
    · exact localError_obeys cur _ hq
    · rw [hq]
      exact obeys_ref hs
  · next cur hs =>
    have hq := h.quiet_of_counting (by rw [hs]; rfl)
    split
    · exact endSensing_obeys cur hq
    · next hone =>
      rw [hq]
      exact obeys_sense hs (by bv_omega)
  all_goals exact h

theorem subTick_countPeriod (h : s.periodLeft = true) : s.timebase.countPeriod.subTick.toNat ≤ 128 := by
  have hk := ((periodLeft_iff s).1 h).2
  have hadd : s.timebase.countPeriod.subTick = s.timebase.subTick + 1 := rfl
  unfold periods at hk
  rw [hadd, BitVec.toNat_add]
  simp
  omega

theorem fastPeriod_obeys (h : s.ConverterObeysQuiet) : s.fastPeriod.ConverterObeysQuiet := by
  obtain ⟨hx, hsub⟩ := converterObeysQuiet_iff.1 h
  refine converterObeysQuiet_iff.2 ?_
  unfold State.fastPeriod
  split
  · next hleft =>
    dsimp only
    split
    · refine ⟨?_, ?_⟩
      · rw [(spanPeriod_internal _).quietActive]
        exact spanPeriod_obeys (s := { s with timebase := s.timebase.countPeriod }) hx
      · rw [(State.spanPeriod_frame _).2.2.1]
        exact subTick_countPeriod hleft
    · exact ⟨hx, subTick_countPeriod hleft⟩
  · exact ⟨hx, hsub⟩

theorem localTake_obeys (h : Obeys s.converter s.quietActive) : Obeys s.localTake.converter s.quietActive := by
  unfold State.localTake
  split
  · next hc =>
    split
    · exact h
    · split
      · rw [hc.2.1]
        exact obeys_ref rfl
      · exact h
  · exact h

/-! ## The end of a division -/

theorem localInputEmptied_obeys (h : Obeys s.converter s.quietActive) :
    Obeys s.localInputEmptied.converter s.quietActive := by
  unfold State.localInputEmptied
  split
  · exact obeys_handedOff
  all_goals exact h

theorem dividerFreed_obeys (h : Obeys s.converter s.quietActive) : Obeys s.dividerFreed.converter s.quietActive := by
  unfold State.dividerFreed State.divideLocal
  split
  · exact h
  · exact localInputEmptied_obeys h
  · simpa using h
  · split
    · exact localInputEmptied_obeys h
    · simpa using h

theorem divisionEnd_obeys (h : Obeys s.converter s.quietActive) : Obeys s.divisionEnd.converter s.quietActive := by
  unfold State.divisionEnd
  split
  · exact h
  · exact dividerFreed_obeys (s := { s.handOff _ _ with ratio := _ }) h

end Converter

section Quiet

variable {s t : State} {p : Port}

/-! ## The onset and the end of quiet activity -/

theorem quietOnset_obeys (h : Obeys s.converter false) : Obeys s.quietOnset.converter true := by
  unfold State.quietOnset
  split
  · next hs =>
    exact ⟨fun _ => rfl, fun _ => ⟨rfl, nofun⟩, fun _ => h.stopped (by rw [hs]; rfl), nofun⟩
  · exact obeys_held
  · exact obeys_held
  · next cur j hs =>
    exact ⟨fun _ => rfl, fun _ => (by rw [hs]; exact ⟨rfl, nofun⟩), h.stopped, h.span⟩
  · next hs => cases h.held hs

theorem quietEnds_obeys (h : Obeys s.converter true) : Obeys s.quietEnds.converter false := by
  have hactive := h.active rfl
  unfold State.quietEnds
  split
  · next hs =>
    exact ⟨nofun, nofun, fun _ => h.stopped hactive.1, nofun⟩
  · next hs => exact absurd hs hactive.2
  · next cur hs => rw [hs] at hactive; cases hactive.1
  · next cur hs => rw [hs] at hactive; cases hactive.1
  · next cur j hs => exact ⟨fun hh => (by rw [hs] at hh; cases hh), nofun, h.stopped, h.span⟩

theorem quietActive_setPort_some (x : Stamp) :
    (s.setPort p { s.port p with quietEnd := some x }).quietActive = true := by
  cases p
  · rfl
  · exact Bool.or_true _

theorem openQuiet_obeys (x : Stamp) (h : Obeys s.converter s.quietActive) :
    Obeys (s.openQuiet p x).converter (s.openQuiet p x).quietActive := by
  have hset : (windowSet s p x).quietActive = true := quietActive_setPort_some x
  unfold State.openQuiet
  dsimp only
  split
  · next hq =>
    rw [show ((s.setPort p { s.port p with quietEnd := some x }).placeDeadline (.quietEnd p) x).quietActive = true
      from hset]
    simpa [hq] using h
  · next hq =>
    rw [Bool.not_eq_true] at hq
    rw [hq] at h
    have honset := quietOnset_obeys (s := windowSet s p x) (by simpa [windowSet] using h)
    rw [quietActive_congr (s := windowSet s p x) (by rw [← windowSet, (State.quietOnset_frame _).2.2.2.2.1])
      (by rw [← windowSet, (State.quietOnset_frame _).2.2.2.2.2.1]), hset]
    exact honset

/-- What ends a window: activity goes on, or ends with it. -/
theorem ended_obeys {u : State} (hc : u.converter = s.converter) (hq : u.quietActive = true → s.quietActive = true)
    (h : Obeys s.converter s.quietActive) :
    Obeys (if s.quietActive = true ∧ u.quietActive = false then u.quietEnds else u).converter
      (if s.quietActive = true ∧ u.quietActive = false then u.quietEnds else u).quietActive := by
  split
  · next hends =>
    rw [(quietEnds_internal u).quietActive, hends.2]
    rw [hends.1] at h
    exact quietEnds_obeys (hc ▸ h)
  · next hgoes =>
    have hsame : u.quietActive = s.quietActive := by
      cases hu : u.quietActive <;> cases hs : s.quietActive <;> simp_all
    rw [hsame, hc]
    exact h

theorem closeQuiet_eq_ended (hp : (s.port p).quietEnd.isSome = true) :
    s.closeQuiet p = if s.quietActive = true ∧ (windowCleared s p).quietActive = false then (windowCleared s p).quietEnds
      else windowCleared s p := by
  have hq : s.quietActive = true := by
    cases p
    · exact Bool.or_eq_true_iff.2 (.inl hp)
    · exact Bool.or_eq_true_iff.2 (.inr hp)
  unfold State.closeQuiet
  rw [if_pos hp]
  change (if (windowCleared s p).quietActive = true then windowCleared s p else (windowCleared s p).quietEnds) = _
  cases (windowCleared s p).quietActive <;> simp [hq]

theorem quietActive_windowCleared (h : (windowCleared s p).quietActive = true) : s.quietActive = true := by
  cases p
  · exact Bool.or_eq_true_iff.2 (.inr (by simpa [windowCleared, State.quietActive, State.setPort] using h))
  · exact Bool.or_eq_true_iff.2 (.inl (by simpa [windowCleared, State.quietActive, State.setPort] using h))

theorem closeQuiet_obeys (h : Obeys s.converter s.quietActive) :
    Obeys (s.closeQuiet p).converter (s.closeQuiet p).quietActive := by
  by_cases hp : (s.port p).quietEnd.isSome = true
  · rw [closeQuiet_eq_ended hp]
    exact ended_obeys (by simp [windowCleared]) quietActive_windowCleared h
  · unfold State.closeQuiet
    rwa [if_neg hp]

theorem quietActive_portCleared {pin : Level} (h : (portCleared s p pin).quietActive = true) : s.quietActive = true := by
  cases p
  · exact Bool.or_eq_true_iff.2 (.inr (by simpa [portCleared, State.quietActive, State.setPort, PortState.reset] using h))
  · exact Bool.or_eq_true_iff.2 (.inl (by simpa [portCleared, State.quietActive, State.setPort, PortState.reset] using h))

theorem resetPort_eq_ended (pin : Level) :
    s.resetPort p pin = if s.quietActive = true ∧ (portCleared s p pin).quietActive = false
      then (portCleared s p pin).quietEnds else portCleared s p pin := rfl

theorem resetPort_obeys (pin : Level) (h : Obeys s.converter s.quietActive) :
    Obeys (s.resetPort p pin).converter (s.resetPort p pin).quietActive := by
  rw [resetPort_eq_ended]
  exact ended_obeys (by simp [portCleared]) quietActive_portCleared h

end Quiet

section Steps

variable {s t u : State} {p : Port}

/-! ## What neither windows nor the converter take part in -/

/-- The engines with their deadlines, the windows, the clock and RESET_N stand. -/
structure Calm (s t : State) : Prop where
  converter : t.converter = s.converter
  remote : t.remote = s.remote
  bus : t.bus = s.bus
  engines : ∀ i, isEngineItem i = true → (t.HasDeadline i ↔ s.HasDeadline i)
  windows : ∀ q, (t.port q).quietEnd = (s.port q).quietEnd
  startState : t.timebase.startState = s.timebase.startState
  subTick : t.timebase.subTick = s.timebase.subTick
  resetN : t.resetN = s.resetN

theorem Calm.refl (s : State) : Calm s s := ⟨rfl, rfl, rfl, fun _ _ => .rfl, fun _ => rfl, rfl, rfl, rfl⟩

theorem Calm.trans (h : Calm s t) (h' : Calm t u) : Calm s u :=
  ⟨h'.converter.trans h.converter, h'.remote.trans h.remote, h'.bus.trans h.bus,
    fun i hi => (h'.engines i hi).trans (h.engines i hi), fun q => (h'.windows q).trans (h.windows q),
    h'.startState.trans h.startState, h'.subTick.trans h.subTick, h'.resetN.trans h.resetN⟩

theorem Calm.keeps (h : Calm s t) (hs : s.ConverterObeysQuiet) : t.ConverterObeysQuiet := by
  rw [converterObeysQuiet_iff] at hs ⊢
  rw [h.converter, quietActive_congr (h.windows .a) (h.windows .b), h.subTick]
  exact hs

/-- What changes only tables of the shared blocks. -/
theorem Calm.of_timebase (he : t.converter = s.converter ∧ t.remote = s.remote ∧ t.bus = s.bus)
    (hq : ∀ q, (t.port q).quietEnd = (s.port q).quietEnd) (ht : t.timebase = s.timebase) (hn : t.resetN = s.resetN) :
    Calm s t :=
  ⟨he.1, he.2.1, he.2.2, fun _ _ => hasDeadline_congr ht, hq, by rw [ht], by rw [ht], hn⟩

theorem Calm.of_dropAll {f : DeadlineItem → Bool} (he : t.converter = s.converter ∧ t.remote = s.remote ∧ t.bus = s.bus)
    (hq : ∀ q, (t.port q).quietEnd = (s.port q).quietEnd) (ht : t.timebase = s.timebase.dropAll f)
    (hf : ∀ i, isEngineItem i = true → f i = false) (hn : t.resetN = s.resetN) : Calm s t :=
  ⟨he.1, he.2.1, he.2.2, fun i hi => (hasDeadline_dropAll ht).trans (and_iff_left (hf i hi)), hq, by rw [ht]; rfl,
    by rw [ht]; rfl, hn⟩

theorem setPort_calm {x : PortState} (h : x.quietEnd = (s.port p).quietEnd) : Calm s (s.setPort p x) :=
  .of_timebase (by simp) (quietEnd_setPort h) (by simp) (by simp)

theorem raise_calm (f : Flag) : Calm s (s.raise p f) := by
  unfold State.raise
  split
  · exact .refl s
  · exact setPort_calm rfl

theorem requested_calm (h : Calm s t) (i : SlotNo) : Calm s (t.requestConversion p i) :=
  h.trans (.of_timebase (by simp) (fun q => by simp) (by simp) (by simp))

theorem tap_calm : Calm s (s.tap p) := by
  unfold State.tap
  split
  · exact raise_calm _
  · exact .refl s

theorem setSlot_calm (i : SlotNo) (x : Slot) : Calm s (s.setSlot p i x) :=
  .of_timebase (by simp) (fun q => by simp) (by simp) (by simp)

theorem placeDeadline_calm {i : DeadlineItem} (x : Stamp) (h : isEngineItem i = false) :
    Calm s (s.placeDeadline i x) := by
  refine ⟨rfl, rfl, rfl, fun j hj => ?_, fun _ => rfl, rfl, rfl, rfl⟩
  rw [hasDeadline_placeDeadline]
  exact or_iff_right fun hji => by rw [hji, h] at hj; cases hj

theorem setChannel_calm (c : Channel) (x : ChannelRecord) : Calm s (s.setChannel c x) :=
  .of_timebase (by simp) (fun q => by simp) (by simp) (by simp)

theorem endSlot_calm (i : SlotNo) (d : Disposition) : Calm s (s.endSlot p i d) := by
  refine .of_dropAll (by simp) (fun q => by simp) (endSlot_timebase i d) (fun j hj => ?_) (by simp)
  cases j <;> first | contradiction | simp [dueOf]

theorem removeWaiters_calm (chosen : Waiter → Bool) : Calm s (s.removeWaiters chosen) :=
  .of_timebase ⟨rfl, rfl, rfl⟩ (fun q => by cases q <;> rfl) rfl rfl

theorem withdraw_calm (c : Channel) : Calm s (s.withdraw c) := by
  refine .of_dropAll (by simp) (fun q => by simp) (withdraw_timebase c) (fun j hj => ?_) (by simp)
  cases j <;> first | contradiction | rfl

theorem endClaim_calm (c : Channel) : Calm s (s.endClaim c) := by
  refine ⟨by simp, by simp, by simp, fun j hj => ?_, fun q => by simp [State.endClaim], by simp, by simp, by simp⟩
  rw [State.endClaim, hasDeadline_dropDeadline, hasDeadline_setChannel]
  exact and_iff_left fun hji => by rw [hji] at hj; cases hj

/-! ## Commands -/

theorem decideConvert_calm : Calm s (s.decideConvert p).state := by
  unfold State.decideConvert
  (repeat' split) <;> first | exact .refl s | exact requested_calm (setSlot_calm ..) _

theorem decideWatch_calm : Calm s (s.decideWatch p).state := by
  unfold State.decideWatch
  (repeat' split) <;>
    first | exact .refl s | exact requested_calm ((setSlot_calm ..).trans (placeDeadline_calm _ rfl)) _

theorem decideCancel_calm : Calm s (s.decideCancel p).state := by
  unfold State.decideCancel
  split
  · exact .refl s
  · split
    · exact (removeWaiters_calm _).trans (endSlot_calm _ _)
    · exact endSlot_calm _ _
    all_goals exact .refl s

theorem decideClaim_calm : Calm s (s.decideClaim p).state := by
  unfold State.decideClaim
  (repeat' split) <;> first | exact .refl s | exact (setChannel_calm ..).trans (placeDeadline_calm _ rfl)

theorem decideRelease_calm : Calm s (s.decideRelease p).state := by
  unfold State.decideRelease
  (repeat' split) <;> first | exact .refl s | exact endClaim_calm _

theorem decideConfigure_calm : Calm s (s.decideConfigure p).state := by
  have hoff (c : Channel) (x : ChannelRecord) : Calm s ((s.setChannel c x).withdraw c) :=
    (setChannel_calm c x).trans (withdraw_calm c)
  unfold State.decideConfigure
  split
  · exact .refl s
  · split
    · split
      · exact .refl s
      · split
        · (repeat' split) <;> first | exact .refl s | exact setChannel_calm _ _
        · simpa only [State.accept] using hoff _ _
    · exact .refl s

theorem acknowledge_calm (v : Word) : Calm s (s.acknowledge p v) := by
  unfold State.acknowledge
  split
  · exact raise_calm _
  · split
    · exact (setPort_calm (by rfl)).trans (setSlot_calm ..)
    · exact raise_calm _

theorem complete_calm (c : Channel) : Calm s (s.complete c) := by
  have hdone (r : ConversionRecord) (o : ConversionOutcome) : Calm s (finished s c r o) :=
    .of_timebase (by simp [finished]) (fun q => by simp) (by simp [finished]) (by simp [finished])
  unfold State.complete
  split
  · exact .refl s
  · split
    · exact .refl s
    · dsimp only
      split
      · exact ((hdone _ _).trans (raise_calm _)).trans (raise_calm _)
      · exact hdone _ _

/-! ## Expiries and windows -/

theorem takeDueExpiry_calm (i : SlotNo) : Calm s (s.takeDueExpiry p i) := by
  unfold State.takeDueExpiry
  split
  · dsimp only
    split
    · exact requested_calm ((setSlot_calm ..).trans (placeDeadline_calm _ rfl)) _
    · exact (setSlot_calm ..).trans (placeDeadline_calm _ rfl)
    all_goals exact .refl s
  · exact .refl s

theorem takeClaimExpiry_calm (c : Channel) : Calm s (s.takeClaimExpiry c) := by
  unfold State.takeClaimExpiry
  split
  · split
    · exact (endClaim_calm c).trans (raise_calm _)
    · exact endClaim_calm c
  · exact .refl s

theorem closeQuiet_keeps (h : s.ConverterObeysQuiet) : (s.closeQuiet p).ConverterObeysQuiet := by
  rw [converterObeysQuiet_iff] at h ⊢
  exact ⟨closeQuiet_obeys h.1, by simpa using h.2⟩

theorem openQuiet_subTick (x : Stamp) : (s.openQuiet p x).timebase.subTick = s.timebase.subTick := by
  unfold State.openQuiet
  dsimp only
  split
  · simp
  · rw [(State.quietOnset_frame _).2.2.1]
    simp

theorem openQuiet_keeps (x : Stamp) (h : s.ConverterObeysQuiet) : (s.openQuiet p x).ConverterObeysQuiet := by
  rw [converterObeysQuiet_iff] at h ⊢
  exact ⟨openQuiet_obeys x h.1, by rw [openQuiet_subTick]; exact h.2⟩

theorem resetPort_subTick (pin : Level) : (s.resetPort p pin).timebase.subTick = s.timebase.subTick := by
  rw [resetPort_eq_ended]
  split <;> simp [portCleared, Timebase.dropAll]

theorem decideQuiet_keeps (h : s.ConverterObeysQuiet) : (s.decideQuiet p).state.ConverterObeysQuiet := by
  unfold State.decideQuiet
  split
  · split
    · exact closeQuiet_keeps h
    · exact openQuiet_keeps _ h
  · exact h

/-- Work of the converter and the Ratio Unit, which leaves windows and the count of FAST periods. -/
theorem Internal.keeps_obeys (h : Internal s t) (hx : Obeys t.converter t.quietActive) (hs : s.ConverterObeysQuiet) :
    t.ConverterObeysQuiet := by
  obtain ⟨-, -, -, -, -, -, -, -, -, ht⟩ := h.frame
  exact converterObeysQuiet_iff.2 ⟨hx, ht ▸ (converterObeysQuiet_iff.1 hs).2⟩

/-- Work of the other engines. -/
theorem Internal.keeps_of_converter (h : Internal s t) (hc : t.converter = s.converter) (hs : s.ConverterObeysQuiet) :
    t.ConverterObeysQuiet :=
  h.keeps_obeys (by rw [hc, h.quietActive]; exact (converterObeysQuiet_iff.1 hs).1) hs

theorem takeExpiry_keeps_obeys (i : DeadlineItem) (h : s.ConverterObeysQuiet) :
    (s.takeExpiry i).ConverterObeysQuiet := by
  cases i with
  | watchDue p i => exact (takeDueExpiry_calm i).keeps h
  | claim c => exact (takeClaimExpiry_calm c).keeps h
  | quietEnd p =>
    change (s.takeQuietExpiry p).ConverterObeysQuiet
    unfold State.takeQuietExpiry
    split
    · exact (raise_calm _).keeps (closeQuiet_keeps h)
    · exact h
  | readDue r => exact (takeReadExpiry_internal s r).keeps_of_converter (by simp) h
  | holdLimit => exact (takeHoldExpiry_internal s).keeps_of_converter (by simp) h
  | busWait => exact (takeBusWaitExpiry_internal s).keeps_of_converter (by simp) h

/-! ## Takes -/

theorem startConversion_calm (x : Engine) (e : PendingEntry) : Calm s (s.startConversion x e) :=
  .of_timebase (by simp) (fun q => by simp) (by simp) (by simp)

/-- A trigger chosen is a take and then the Remote Engine's own work. -/
theorem chooseTrigger_started (xcl : Level) :
    s.chooseTrigger xcl = s ∨ ∃ u, Calm s u ∧ Internal u (s.chooseTrigger xcl) := by
  unfold State.chooseTrigger
  split
  · split
    · split
      · exact .inr ⟨_, startConversion_calm _ _, (setRow_internal _ _ _).trans (acceptTransaction_internal _ _ _)⟩
      · exact .inl rfl
    · exact .inl rfl
  · exact .inl rfl

/-! ## Every effect -/

theorem Effect.keeps_converterObeysQuiet (h : Effect s t) (hs : s.ConverterObeysQuiet) : t.ConverterObeysQuiet := by
  obtain ⟨hx, hsub⟩ := converterObeysQuiet_iff.1 hs
  cases h with
  | queue => exact hs
  | registers p x h => exact (setPort_calm h.quietEnd).keeps hs
  | convert => exact decideConvert_calm.keeps hs
  | watch => exact decideWatch_calm.keeps hs
  | cancel => exact decideCancel_calm.keeps hs
  | claim => exact decideClaim_calm.keeps hs
  | release => exact decideRelease_calm.keeps hs
  | configure => exact decideConfigure_calm.keeps hs
  | quiet => exact decideQuiet_keeps hs
  | acknowledge p v => exact (acknowledge_calm v).keeps hs
  | resetPort p pin =>
    exact converterObeysQuiet_iff.2 ⟨resetPort_obeys pin hx, by rw [resetPort_subTick]; exact hsub⟩
  | resetDevice cause => exact converterObeysQuiet_iff.2 ⟨obeys_reset, Nat.zero_le _⟩
  | releaseDevice xrate =>
    unfold State.releaseDevice
    split
    · exact hs
    · exact hs
  | startRunning =>
    unfold State.startRunning
    split
    · exact hs
    · exact hs
  | expiry i => exact takeExpiry_keeps_obeys i hs
  | fastPeriod => exact fastPeriod_obeys hs
  | advanceTick linesHigh =>
    have hadvanced : State.ConverterObeysQuiet { s with timebase := s.timebase.advance } :=
      converterObeysQuiet_iff.2 ⟨hx, Nat.zero_le _⟩
    exact (Internal.bus _ _).keeps_of_converter rfl ((tap_calm.trans tap_calm).keeps hadvanced)
  | localTake =>
    refine converterObeysQuiet_iff.2 ⟨?_, by simpa using hsub⟩
    rw [quietActive_congr (s := s) (by simp) (by simp)]
    exact localTake_obeys hx
  | complete c => exact (complete_calm c).keeps hs
  | chooseTrigger xcl =>
    rcases chooseTrigger_started (s := s) xcl with heq | ⟨u, hu, hi⟩
    · exact heq.symm ▸ hs
    · exact hi.keeps_of_converter (by rw [hu.converter]; simp) (hu.keeps hs)
  | halfCycle => exact (halfCycle_internal s).keeps_obeys ((halfCycle_internal s).quietActive ▸ halfCycle_obeys hx) hs
  | divisionEnd =>
    exact (divisionEnd_internal s).keeps_obeys ((divisionEnd_internal s).quietActive ▸ divisionEnd_obeys hx) hs
  | chooseRead xcl => exact (chooseRead_internal s xcl).keeps_of_converter (by simp) hs
  | attemptStart xcl => exact (attemptStart_internal s xcl).keeps_of_converter (by simp) hs
  | stopCompletes => exact (stopCompletes_internal s).keeps_of_converter (by simp) hs
  | lossOfArbitration cause => exact (lossOfArbitration_internal s cause).keeps_of_converter (by simp) hs
  | backoffEnd xcl => exact (backoffEnd_internal s xcl).keeps_of_converter (by simp) hs
  | foreignStart => exact (foreignStart_internal s).keeps_of_converter (by simp) hs
  | foreignStop => exact (foreignStop_internal s).keeps_of_converter (by simp) hs
  | halfBitPeriodEnd => exact (halfBitPeriodEnd_internal s).keeps_of_converter (by simp) hs
  | xclSampledHigh xda => exact (xclSampledHigh_internal s xda).keeps_of_converter (by simp) hs
  | xclPulledLow => exact (xclPulledLow_internal s).keeps_of_converter (by simp) hs
  | lineWentLow => exact (lineWentLow_internal s).keeps_of_converter (by simp) hs

/-- Settles O56, by cases over the effects of a step. -/
theorem stepKeepsConverterObeyingQuiet : Obligations.StepKeepsConverterObeyingQuiet :=
  fun _ _ hs h => step_keeps (fun he => he.keeps_converterObeysQuiet) h hs

end Steps

end Sys2Proof.Invariants

/-! Before start-up has ended (R143): no command finds anything to work on. -/

namespace Sys2Proof.Invariants

open Sys2Proof.Machine Sys2Proof.Statement Sys2Proof.Claims Sys2Proof.Requests

section Sleep

variable {s t : State} {p : Port}

/-! ## A machine that has not started -/

/-- What `NothingBeforeRunning` says of a machine that is STARTING. -/
structure Asleep (s : State) : Prop where
  timebase : s.timebase = .reset
  channels : s.channels = Vector.ofFn .reset
  results : s.results = Vector.replicate 16 .reset
  pendingList : s.pendingList = []
  inFlight : s.inFlight = []
  ratio : s.ratio = .reset
  converter : s.converter = .reset
  remote : s.remote = .reset
  control : s.bus.control = .idle
  timer : s.bus.timer = .stopped
  attempt : s.bus.attempt = 0
  transaction : s.bus.transaction = none
  portA : s.portA.Unused
  portB : s.portB.Unused

theorem nothingBeforeRunning_iff : s.NothingBeforeRunning ↔
    (s.resetN = .low → s.timebase.startState = .starting) ∧ (s.timebase.startState = .starting → Asleep s) :=
  and_congr_right fun _ => imp_congr_right fun _ =>
    ⟨fun ⟨h1, h2, h3, h4, h5, h6, h7, h8, h9, h10, h11, h12, h13, h14⟩ =>
      ⟨h1, h2, h3, h4, h5, h6, h7, h8, h9, h10, h11, h12, h13, h14⟩,
    fun ⟨h1, h2, h3, h4, h5, h6, h7, h8, h9, h10, h11, h12, h13, h14⟩ =>
      ⟨h1, h2, h3, h4, h5, h6, h7, h8, h9, h10, h11, h12, h13, h14⟩⟩

theorem Asleep.starting (h : Asleep s) : s.timebase.startState = .starting := by
  rw [h.timebase]
  rfl

theorem Asleep.nothingBeforeRunning (h : Asleep s) : s.NothingBeforeRunning :=
  nothingBeforeRunning_iff.2 ⟨fun _ => h.starting, fun _ => h⟩

theorem nothingBeforeRunning_of_running (hr : s.timebase.startState = .running) (hn : s.resetN = .high) :
    s.NothingBeforeRunning :=
  nothingBeforeRunning_iff.2 ⟨fun h => absurd (hn.symm.trans h) nofun, fun h => absurd (hr.symm.trans h) nofun⟩

theorem unused_reset (l : Level) : (PortState.reset l).Unused := ⟨rfl, rfl, rfl, rfl, rfl, rfl, rfl, rfl⟩

theorem asleep_resetDevice (cause : ResetCause) : Asleep (s.resetDevice cause) :=
  ⟨rfl, rfl, rfl, rfl, rfl, rfl, rfl, rfl, rfl, rfl, rfl, rfl, unused_reset _, unused_reset _⟩

theorem Asleep.port (h : Asleep s) (p : Port) : (s.port p).Unused := by
  cases p
  · exact h.portA
  · exact h.portB

theorem Asleep.setPort (h : Asleep s) {x : PortState} (hx : x.Unused) : Asleep (s.setPort p x) := by
  cases p
  · exact { h with portA := hx }
  · exact { h with portB := hx }

theorem Asleep.bus (h : Asleep s) {x : BusController} (hc : x.control = s.bus.control) (ht : x.timer = s.bus.timer)
    (ha : x.attempt = s.bus.attempt) (hx : x.transaction = s.bus.transaction) : Asleep { s with bus := x } :=
  { h with
    control := hc.trans h.control, timer := ht.trans h.timer, attempt := ha.trans h.attempt
    transaction := hx.trans h.transaction }

/-! ## Its ports -/

theorem OwnRegisters.unused {x y : PortState} (h : OwnRegisters x y) (hx : x.Unused) : y.Unused := by
  obtain ⟨hs, hq, hv, he, ht, hc, hb, hl⟩ := hx
  have hflag (f : Flag) (hf : f ≠ .earlyStrobe) (hf' : f ≠ .ackStale) (hclear : x.flags.get f = false) :
      y.flags.get f = false :=
    Bool.eq_false_iff.2 fun hy => by rw [h.flags f hf hf' hy] at hclear; cases hclear
  exact ⟨h.slots.trans hs, h.queue.trans hq, h.version.trans hv, h.quietEnd.trans he, hflag .tap nofun nofun ht,
    hflag .claimLapsed nofun nofun hc, hflag .busFault nofun nofun hb, hflag .quietLapsed nofun nofun hl⟩

theorem Asleep.raise_ackStale (h : Asleep s) : Asleep (s.raise p .ackStale) := by
  unfold State.raise
  split
  · exact h
  · exact h.setPort (h.port p)

theorem Asleep.acknowledge (h : Asleep s) (v : Word) : Asleep (s.acknowledge p v) := by
  unfold State.acknowledge
  rw [(h.port p).2.1]
  exact h.raise_ackStale

theorem Asleep.quietActive (h : Asleep s) : s.quietActive = false := by
  rw [State.quietActive, h.portA.2.2.2.1, h.portB.2.2.2.1]
  rfl

theorem freedClaim_reset (p : Port) (c : Channel) : freedClaim p (ChannelRecord.reset c) = ChannelRecord.reset c := by
  unfold freedClaim
  rw [if_neg]
  unfold ChannelRecord.reset
  split <;> nofun

theorem Asleep.resetPort (h : Asleep s) (pin : Level) : Asleep (s.resetPort p pin) := by
  rw [resetPort_eq_ended, if_neg (by rw [h.quietActive]; nofun), portCleared]
  refine Asleep.setPort ?_ (unused_reset pin)
  refine { h with
    timebase := by rw [h.timebase]; rfl, channels := ?_, pendingList := ?_, inFlight := ?_ }
  · refine congrArg Vector.ofFn (funext fun c => ?_)
    rw [State.channel, h.channels]
    simpa using freedClaim_reset p c
  · simp [State.removeWaiters, h.pendingList]
  · simp [State.removeWaiters, h.inFlight]

/-! ## Its engines -/

theorem Asleep.not_ticks (h : Asleep s) : s.ticks = false := by
  rw [State.ticks, h.starting]
  rfl

theorem Asleep.takeable (h : Asleep s) (b : Bool) : s.takeable b = none := by
  unfold State.takeable
  rw [h.pendingList]
  rfl

theorem Asleep.not_expiryDue (h : Asleep s) (i : DeadlineItem) : s.expiryDue i = false := by
  rw [State.expiryDue, h.timebase]
  rfl

theorem Asleep.takeExpiry_eq (h : Asleep s) (i : DeadlineItem) : s.takeExpiry i = s := by
  cases i <;> exact if_neg (by simp [h.not_expiryDue])

theorem Asleep.halfCycle_eq (h : Asleep s) : s.halfCycle = s := by
  unfold State.halfCycle
  rw [h.converter]
  rfl

theorem Asleep.fastPeriod_eq (h : Asleep s) : s.fastPeriod = s :=
  if_neg (by rw [State.periodLeft, h.not_ticks]; nofun)

theorem Asleep.localTake_eq (h : Asleep s) : s.localTake = s := by
  unfold State.localTake
  rw [h.takeable]
  exact ite_self s

theorem Asleep.divisionEnd_eq (h : Asleep s) : s.divisionEnd = s := by
  unfold State.divisionEnd
  rw [h.ratio]
  rfl

theorem Asleep.complete_eq (h : Asleep s) (c : Channel) : s.complete c = s := by
  unfold State.complete
  rw [h.inFlight]
  rfl

theorem Asleep.chooseTrigger_eq (h : Asleep s) (xcl : Level) : s.chooseTrigger xcl = s := by
  unfold State.chooseTrigger
  rw [h.takeable]
  split
  · split <;> first | rfl | contradiction
  · rfl

theorem Asleep.chooseRead_eq (h : Asleep s) (xcl : Level) : s.chooseRead xcl = s := by
  unfold State.chooseRead
  rw [h.remote]
  exact ite_self s

/-! ## Its bus controller -/

theorem Asleep.attemptStart_eq (h : Asleep s) (xcl : Level) : s.attemptStart xcl = s :=
  if_neg (by rw [h.control]; nofun)

theorem Asleep.backoffEnd_eq (h : Asleep s) (xcl : Level) : s.backoffEnd xcl = s := by
  unfold State.backoffEnd
  rw [h.control]

theorem Asleep.stopCompletes_eq (h : Asleep s) : s.stopCompletes = s := by
  unfold State.stopCompletes
  rw [h.control]

theorem Asleep.lossOfArbitration_eq (h : Asleep s) (cause : LossCause) : s.lossOfArbitration cause = s :=
  if_neg (by cases cause <;> simp [BusController.canLose, BusController.exposed, BusControl.inAttempt, h.control])

theorem endHighHalf_of_idle (h : s.bus.control = .idle) : s.endHighHalf = s := by
  unfold State.endHighHalf
  rw [h]

theorem Asleep.halfBitPeriodEnd_eq (h : Asleep s) : s.halfBitPeriodEnd = s := by
  unfold State.halfBitPeriodEnd
  rw [h.control]
  exact endHighHalf_of_idle h.control

theorem Asleep.xclSampledHigh_eq (h : Asleep s) (xda : Level) : s.xclSampledHigh xda = s := by
  unfold State.xclSampledHigh
  rw [h.control]

theorem Asleep.lineWentLow (h : Asleep s) : Asleep s.lineWentLow := h.bus rfl rfl rfl rfl

theorem Asleep.xclPulledLow (h : Asleep s) : Asleep s.xclPulledLow := by
  unfold State.xclPulledLow
  rw [h.control]
  dsimp only
  rw [endHighHalf_of_idle (s := s.lineWentLow) h.control]
  exact h.lineWentLow

theorem Asleep.foreignStart (h : Asleep s) : Asleep s.foreignStart := by
  unfold State.foreignStart
  rw [if_pos (.inl (by rw [h.control]; rfl))]
  exact h.bus rfl rfl rfl rfl

theorem Asleep.foreignStop (h : Asleep s) : Asleep s.foreignStop := by
  unfold State.foreignStop
  rw [if_pos (by rw [h.control]; rfl)]
  exact h.bus rfl rfl rfl rfl

/-! ## Every effect -/

theorem Asleep.not_running (h : Asleep s) : s.timebase.startState ≠ .running := by
  rw [h.starting]
  nofun

theorem Asleep.effect (h : Asleep s) (he : Effect s t) : t.NothingBeforeRunning := by
  cases he with
  | startRunning =>
    unfold State.startRunning
    split
    · next hc => exact nothingBeforeRunning_of_running rfl hc.2
    · exact h.nothingBeforeRunning
  | convert p hr | watch p hr | cancel p hr | claim p hr | release p hr | configure p hr | quiet p hr =>
    exact absurd hr h.not_running
  | advanceTick _ hr => exact absurd hr h.not_running
  | resetDevice cause => exact (asleep_resetDevice cause).nothingBeforeRunning
  | queue => exact Asleep.nothingBeforeRunning { h with }
  | releaseDevice xrate =>
    unfold State.releaseDevice
    split
    · exact Asleep.nothingBeforeRunning { h with }
    · exact h.nothingBeforeRunning
  | registers p x hx => exact (h.setPort (hx.unused (h.port p))).nothingBeforeRunning
  | acknowledge p v => exact (h.acknowledge v).nothingBeforeRunning
  | resetPort p pin => exact (h.resetPort pin).nothingBeforeRunning
  | foreignStart => exact h.foreignStart.nothingBeforeRunning
  | foreignStop => exact h.foreignStop.nothingBeforeRunning
  | xclPulledLow => exact h.xclPulledLow.nothingBeforeRunning
  | lineWentLow => exact h.lineWentLow.nothingBeforeRunning
  | expiry i => exact (h.takeExpiry_eq i).symm ▸ h.nothingBeforeRunning
  | halfCycle => exact h.halfCycle_eq.symm ▸ h.nothingBeforeRunning
  | fastPeriod => exact h.fastPeriod_eq.symm ▸ h.nothingBeforeRunning
  | localTake => exact h.localTake_eq.symm ▸ h.nothingBeforeRunning
  | divisionEnd => exact h.divisionEnd_eq.symm ▸ h.nothingBeforeRunning
  | complete c => exact (h.complete_eq c).symm ▸ h.nothingBeforeRunning
  | chooseTrigger xcl => exact (h.chooseTrigger_eq xcl).symm ▸ h.nothingBeforeRunning
  | chooseRead xcl => exact (h.chooseRead_eq xcl).symm ▸ h.nothingBeforeRunning
  | attemptStart xcl => exact (h.attemptStart_eq xcl).symm ▸ h.nothingBeforeRunning
  | stopCompletes => exact h.stopCompletes_eq.symm ▸ h.nothingBeforeRunning
  | lossOfArbitration cause => exact (h.lossOfArbitration_eq cause).symm ▸ h.nothingBeforeRunning
  | backoffEnd xcl => exact (h.backoffEnd_eq xcl).symm ▸ h.nothingBeforeRunning
  | halfBitPeriodEnd => exact h.halfBitPeriodEnd_eq.symm ▸ h.nothingBeforeRunning
  | xclSampledHigh xda => exact (h.xclSampledHigh_eq xda).symm ▸ h.nothingBeforeRunning

/-- RESET_N and the start state stand. -/
def ClockKept (s t : State) : Prop := t.resetN = s.resetN ∧ t.timebase.startState = s.timebase.startState

theorem Calm.clockKept (h : Calm s t) : ClockKept s t := ⟨h.resetN, h.startState⟩

theorem Internal.clockKept (h : Internal s t) : ClockKept s t := by
  obtain ⟨-, hn, -, -, -, -, -, hs, -⟩ := h.frame
  exact ⟨hn, hs⟩

theorem openQuiet_clockKept (x : Stamp) : ClockKept s (s.openQuiet p x) := by
  refine ⟨by simp, ?_⟩
  unfold State.openQuiet
  dsimp only
  split
  · simp
  · rw [(State.quietOnset_frame _).2.2.1]
    simp

theorem decideQuiet_clockKept : ClockKept s (s.decideQuiet p).state := by
  unfold State.decideQuiet
  split
  · split
    · exact ⟨(s.closeQuiet_frame p).2.1, (s.closeQuiet_clock p).1⟩
    · exact openQuiet_clockKept _
  · exact ⟨rfl, rfl⟩

/-- In a machine that runs, only a device reset stops the clock. -/
theorem Effect.clockKept (h : Effect s t) (hr : s.timebase.startState = .running) (hn : s.resetN = .high) :
    ClockKept s t ∨ Asleep t := by
  cases h with
  | resetDevice cause => exact .inr (asleep_resetDevice cause)
  | queue => exact .inl ⟨rfl, rfl⟩
  | registers p x h => exact .inl (setPort_calm h.quietEnd).clockKept
  | convert => exact .inl decideConvert_calm.clockKept
  | watch => exact .inl decideWatch_calm.clockKept
  | cancel => exact .inl decideCancel_calm.clockKept
  | claim => exact .inl decideClaim_calm.clockKept
  | release => exact .inl decideRelease_calm.clockKept
  | configure => exact .inl decideConfigure_calm.clockKept
  | quiet => exact .inl decideQuiet_clockKept
  | acknowledge p v => exact .inl (acknowledge_calm v).clockKept
  | resetPort p pin =>
    refine .inl ⟨by simp, ?_⟩
    rw [resetPort_eq_ended]
    split <;> simp [portCleared, Timebase.dropAll]
  | releaseDevice xrate =>
    refine .inl ?_
    rw [State.releaseDevice, if_neg (by rw [hn]; nofun)]
    exact ⟨rfl, rfl⟩
  | startRunning =>
    refine .inl ?_
    rw [State.startRunning, if_neg (by rw [hr]; nofun)]
    exact ⟨rfl, rfl⟩
  | expiry i => exact .inl ⟨(s.takeExpiry_frame i).2.1, (s.takeExpiry_clock i).1⟩
  | fastPeriod => exact .inl ⟨by simp, (s.edge_clock .fastPeriod).1⟩
  | advanceTick b => exact .inl ⟨by simp, by simp [State.advanceTick, Timebase.advance]⟩
  | localTake => exact .inl ⟨by simp, by simp⟩
  | complete c => exact .inl (complete_calm c).clockKept
  | chooseTrigger xcl =>
    rcases chooseTrigger_started (s := s) xcl with heq | ⟨u, hu, hi⟩
    · exact .inl (heq.symm ▸ ⟨rfl, rfl⟩)
    · exact .inl ⟨hi.clockKept.1.trans hu.resetN, hi.clockKept.2.trans hu.startState⟩
  | halfCycle => exact .inl (halfCycle_internal s).clockKept
  | divisionEnd => exact .inl (divisionEnd_internal s).clockKept
  | chooseRead xcl => exact .inl (chooseRead_internal s xcl).clockKept
  | attemptStart xcl => exact .inl (attemptStart_internal s xcl).clockKept
  | stopCompletes => exact .inl (stopCompletes_internal s).clockKept
  | lossOfArbitration cause => exact .inl (lossOfArbitration_internal s cause).clockKept
  | backoffEnd xcl => exact .inl (backoffEnd_internal s xcl).clockKept
  | foreignStart => exact .inl (foreignStart_internal s).clockKept
  | foreignStop => exact .inl (foreignStop_internal s).clockKept
  | halfBitPeriodEnd => exact .inl (halfBitPeriodEnd_internal s).clockKept
  | xclSampledHigh xda => exact .inl (xclSampledHigh_internal s xda).clockKept
  | xclPulledLow => exact .inl (xclPulledLow_internal s).clockKept
  | lineWentLow => exact .inl (lineWentLow_internal s).clockKept

theorem Effect.keeps_nothingBeforeRunning (h : Effect s t) (hs : s.NothingBeforeRunning) : t.NothingBeforeRunning := by
  obtain ⟨hlow, hasleep⟩ := nothingBeforeRunning_iff.1 hs
  cases hr : s.timebase.startState
  · exact (hasleep hr).effect h
  · have hn : s.resetN = .high := by
      cases hn : s.resetN
      · rw [hlow hn] at hr
        cases hr
      · rfl
    rcases h.clockKept hr hn with ⟨htn, htr⟩ | hsleep
    · exact nothingBeforeRunning_of_running (htr.trans hr) (htn.trans hn)
    · exact hsleep.nothingBeforeRunning

/-- Settles O58: what is asleep stays so until ENTER_RUNNING, and only a device reset ends RUNNING. -/
theorem stepKeepsNothingBeforeRunning : Obligations.StepKeepsNothingBeforeRunning :=
  fun _ _ hs h => step_keeps (fun he => he.keeps_nothingBeforeRunning) h hs

end Sleep

end Sys2Proof.Invariants

/-! The rows of the Remote Engine (R132, R136, R139): one relation of their states, the two orders, the read dues and the row
carried, and what each of the engine's operations makes of it. -/

namespace Sys2Proof.Invariants

open Sys2Proof.Machine Sys2Proof.Statement Sys2Proof.Claims Sys2Proof.Requests

section Rows

variable {s t : State} {r : RowNo} {c : Option RowNo}

/-! ## The relation -/

/-- A row in such a state is the one whose transaction the controller carries. -/
def carriedState (x : RowState) : Bool := decide (x = .triggering) || decide (x = .reading)

/-- The states of the rows agree with the two orders, with the rows that have a read due, and with the row carried. -/
structure RowsAgree (f : RowNo → RowState) (reads waits : List RowNo) (due : RowNo → Prop) (c : Option RowNo) : Prop where
  carried : ∀ q, carriedState (f q) = true ↔ c = some q
  reads_nodup : reads.Nodup
  reads_mem : ∀ q, q ∈ reads ↔ f q = .readDue
  waits_nodup : waits.Nodup
  waits_mem : ∀ q, q ∈ waits ↔ f q = .ratioWait
  due : ∀ q, due q ↔ f q = .settling

/-- The rows of a state agree, with the row carried named. -/
def Rows (s : State) (c : Option RowNo) : Prop :=
  RowsAgree (fun q => (s.row q).state) s.remote.readOrder s.remote.waitOrder (fun q => s.HasDeadline (.readDue q)) c

theorem remoteCoherent_iff : s.RemoteCoherent ↔ ∃ c, (s.bus.control = .idle ↔ c = none) ∧ Rows s c := by
  constructor
  · rintro ⟨hidle, hbusy, hrn, hrm, hwn, hwm, hd⟩
    by_cases hi : s.bus.control = .idle
    · refine ⟨none, iff_of_true hi rfl, fun q => iff_of_false ?_ nofun, hrn, hrm, hwn, hwm, hd⟩
      exact Bool.eq_false_iff.1 (hidle hi q)
    · obtain ⟨r, hr⟩ := hbusy hi
      exact ⟨some r, iff_of_false hi nofun, fun q => (hr q).trans (eq_comm.trans (Option.some_inj).symm), hrn, hrm, hwn, hwm, hd⟩
  · rintro ⟨c, hc, hcar, hrn, hrm, hwn, hwm, hd⟩
    refine ⟨fun hi q => ?_, fun hi => ?_, hrn, hrm, hwn, hwm, hd⟩
    · exact Bool.eq_false_iff.2 fun hq => by simpa [hc.1 hi] using (hcar q).1 hq
    · obtain ⟨r, hr⟩ := Option.ne_none_iff_exists'.1 fun hn => hi (hc.2 hn)
      exact ⟨r, fun q => (hcar q).trans (by rw [hr, Option.some_inj, eq_comm])⟩

theorem Rows.congr (h : Rows s c) (hr : t.remote = s.remote)
    (hd : ∀ q, t.HasDeadline (.readDue q) ↔ s.HasDeadline (.readDue q)) : Rows t c := by
  have hrow : t.row = s.row := funext fun q => by rw [State.row, State.row, hr]
  exact ⟨fun q => hrow ▸ h.carried q, hr ▸ h.reads_nodup, fun q => by rw [hr, hrow]; exact h.reads_mem q,
    hr ▸ h.waits_nodup, fun q => by rw [hr, hrow]; exact h.waits_mem q, fun q => by rw [hd, hrow]; exact h.due q⟩

/-- One row goes to another state: the two orders, the read dues and the row carried change at that row alone. -/
theorem Rows.move (h : Rows s c) {c' : Option RowNo} {x : RowState} {reads waits : List RowNo}
    (hrow : ∀ q, (t.row q).state = if q = r then x else (s.row q).state) (hro : t.remote.readOrder = reads)
    (hwo : t.remote.waitOrder = waits) (hc : ∀ q, q ≠ r → (c' = some q ↔ c = some q))
    (hcr : carriedState x = true ↔ c' = some r) (hreads : reads.Nodup)
    (hrm : ∀ q, q ≠ r → (q ∈ reads ↔ q ∈ s.remote.readOrder)) (hrr : r ∈ reads ↔ x = .readDue) (hwaits : waits.Nodup)
    (hwm : ∀ q, q ≠ r → (q ∈ waits ↔ q ∈ s.remote.waitOrder)) (hwr : r ∈ waits ↔ x = .ratioWait)
    (hd : ∀ q, q ≠ r → (t.HasDeadline (.readDue q) ↔ s.HasDeadline (.readDue q)))
    (hdr : t.HasDeadline (.readDue r) ↔ x = .settling) : Rows t c' := by
  have hsame : (t.row r).state = x := (hrow r).trans (if_pos rfl)
  have hother (q : RowNo) (hq : q ≠ r) : (t.row q).state = (s.row q).state := (hrow q).trans (if_neg hq)
  subst hro hwo
  refine ⟨fun q => ?_, hreads, fun q => ?_, hwaits, fun q => ?_, fun q => ?_⟩ <;> by_cases hq : q = r
  · rw [hq, hsame, hcr]
  · rw [hother q hq, hc q hq]
    exact h.carried q
  · rw [hq, hsame, hrr]
  · rw [hother q hq, hrm q hq]
    exact h.reads_mem q
  · rw [hq, hsame, hwr]
  · rw [hother q hq, hwm q hq]
    exact h.waits_mem q
  · rw [hq, hsame, hdr]
  · rw [hother q hq, hd q hq]
    exact h.due q

/-! ## Where a row is not -/

theorem Rows.not_mem_reads (h : Rows s c) (hr : (s.row r).state ≠ .readDue) : r ∉ s.remote.readOrder :=
  fun hm => hr ((h.reads_mem r).1 hm)

theorem Rows.not_mem_waits (h : Rows s c) (hr : (s.row r).state ≠ .ratioWait) : r ∉ s.remote.waitOrder :=
  fun hm => hr ((h.waits_mem r).1 hm)

theorem Rows.not_due (h : Rows s c) (hr : (s.row r).state ≠ .settling) : ¬ s.HasDeadline (.readDue r) :=
  fun hm => hr ((h.due r).1 hm)

theorem Rows.state_of_carried (h : Rows s (some r)) : (s.row r).state = .triggering ∨ (s.row r).state = .reading := by
  simpa [carriedState] using (h.carried r).2 rfl

theorem Rows.activeRow_eq (h : Rows s (some r)) : s.activeRow = some r := by
  refine activeRow_of_Carries s r (s.row r).state ⟨h.state_of_carried, rfl, fun q hq => ?_⟩
  have hnot : ¬ carriedState (s.row q).state = true := fun hc => hq (Option.some_inj.1 ((h.carried q).1 hc)).symm
  have hboth : (s.row q).state ≠ .triggering ∧ (s.row q).state ≠ .reading := by simpa [carriedState] using hnot
  exact hboth

/-! ## The row carried goes on -/

/-- The row carried is carried no longer: it becomes FREE, settles with a read due, or waits for the Ratio Unit. It has been
in neither order and had no read due. -/
theorem Rows.retire (h : Rows s (some r)) {st : RowState} (hst : st = .free ∨ st = .settling ∨ st = .ratioWait)
    (hrow : ∀ q, (t.row q).state = if q = r then st else (s.row q).state)
    (hreads : t.remote.readOrder = s.remote.readOrder)
    (hwaits : t.remote.waitOrder = if st = .ratioWait then s.remote.waitOrder ++ [r] else s.remote.waitOrder)
    (hdue : ∀ q, t.HasDeadline (.readDue q) ↔ (q = r ∧ st = .settling) ∨ s.HasDeadline (.readDue q)) : Rows t none := by
  have hne (x : RowState) (h1 : x ≠ .triggering) (h2 : x ≠ .reading) : (s.row r).state ≠ x := by
    rintro rfl
    exact h.state_of_carried.elim h1 h2
  have hnotreads := h.not_mem_reads (hne .readDue nofun nofun)
  have hnotwaits := h.not_mem_waits (hne .ratioWait nofun nofun)
  have hnotdue := h.not_due (hne .settling nofun nofun)
  refine h.move (r := r) hrow hreads hwaits (fun q hq => ?_) ?_ h.reads_nodup (fun q _ => .rfl) ?_ ?_ (fun q hq => ?_) ?_
    (fun q hq => by simp [hdue, hq]) (by simp [hdue, hnotdue])
  · exact iff_of_false nofun fun hs => hq (Option.some_inj.1 hs).symm
  · rcases hst with rfl | rfl | rfl <;> exact iff_of_false nofun nofun
  · exact iff_of_false hnotreads (by rcases hst with rfl | rfl | rfl <;> nofun)
  · split
    · exact nodup_append_one h.waits_nodup hnotwaits
    · exact h.waits_nodup
  · split <;> simp [hq]
  · split
    · simp [*]
    · exact iff_of_false hnotwaits ‹_›

theorem row_arrive (e : Engine) (j : Job) (q : RowNo) : (s.arrive e j).row q = s.row q := by simp [State.row]

theorem remoteError_rows (h : Rows s (some r)) (status : Status) : Rows (s.remoteError r status) none := by
  refine h.retire (st := .free) (.inl rfl) (fun q => ?_) rfl rfl fun q => ?_
  · change ((s.setRow r Row.free).row q).state = _
    rw [State.row_setRow_eq]
    split <;> rfl
  · exact ⟨.inr, fun hd => hd.resolve_left fun hf => nomatch hf.2⟩

theorem settleRow_rows (h : Rows s (some r)) (ahead : Stamp) (polls : BitVec 4) :
    Rows (s.settleRow r ahead polls) none := by
  refine h.retire (st := .settling) (.inr (.inl rfl)) (fun q => ?_) rfl rfl fun q => ?_
  · simp only [State.settleRow, State.row_placeDeadline, State.row_setRow_eq]
    split <;> rfl
  · simp only [State.settleRow, hasDeadline_placeDeadline]
    simp [State.HasDeadline]

theorem offerRemote_rows (h : Rows s (some r)) (m n : Word) : Rows (s.offerRemote r m n) none := by
  unfold State.offerRemote
  dsimp only
  split
  · refine h.retire (st := .free) (.inl rfl) (fun q => ?_) (by simp [State.setRow]) (by simp [State.setRow]) fun q => ?_
    · rw [State.row_setRow_eq, row_arrive]
      split <;> rfl
    · rw [hasDeadline_congr (s := s) (by simp)]
      simp
  · refine h.retire (st := .ratioWait) (.inr (.inr rfl)) (fun q => ?_) rfl rfl fun q => ?_
    · change ((s.setRow r _).row q).state = _
      rw [State.row_setRow_eq]
      split <;> rfl
    · rw [hasDeadline_congr (s := s) (by simp)]
      simp

theorem triggerOutcome_rows (h : Rows s (some r)) (o : BusOutcome) : Rows (s.triggerOutcome r o) none := by
  cases o with
  | done => exact settleRow_rows h _ _
  | _ => exact remoteError_rows h _

theorem resultBlock_rows (h : Rows s (some r)) (l : List Byte) : Rows (s.resultBlock r l) none := by
  unfold State.resultBlock
  split
  · split
    · exact offerRemote_rows h _ _
    · split
      · split
        · exact settleRow_rows h _ _
        · exact remoteError_rows h _
      · exact remoteError_rows h _
  · exact remoteError_rows h _

theorem readOutcome_rows (h : Rows s (some r)) (o : BusOutcome) : Rows (s.readOutcome r o) none := by
  cases o with
  | done bytes => exact resultBlock_rows h _
  | _ => exact remoteError_rows h _

/-- The outcome of the transaction carried leaves no row carried (R135, R138). -/
theorem takeOutcome_rows (h : Rows s (some r)) (o : BusOutcome) : Rows (s.takeOutcome o) none := by
  unfold State.takeOutcome
  rw [h.activeRow_eq]
  dsimp only
  split
  · exact triggerOutcome_rows h o
  · exact readOutcome_rows h o

/-! ## Choices, expiries and the wait order -/

theorem state_setRow (x : Row) (q : RowNo) :
    ((s.setRow r x).row q).state = if q = r then x.state else (s.row q).state := by
  rw [State.row_setRow_eq]
  split <;> rfl

/-- A FREE row becomes TRIGGERING (R134). -/
theorem setRow_triggering_rows (h : Rows s none) (hf : (s.row r).state = .free) {x : Row} (hx : x.state = .triggering) :
    Rows (s.setRow r x) (some r) := by
  refine h.move (r := r) (x := .triggering) (fun q => hx ▸ state_setRow x q) rfl rfl (fun q hq => ?_) (iff_of_true rfl rfl)
    h.reads_nodup (fun q _ => .rfl) ?_ h.waits_nodup (fun q _ => .rfl) ?_ (fun q _ => .rfl) ?_
  · exact iff_of_false (fun hs => hq (Option.some_inj.1 hs).symm) nofun
  · exact iff_of_false (h.not_mem_reads (by rw [hf]; nofun)) nofun
  · exact iff_of_false (h.not_mem_waits (by rw [hf]; nofun)) nofun
  · exact iff_of_false (h.not_due (by rw [hf]; nofun)) nofun

/-- The head of the read order leaves it and becomes READING (R133, R137). -/
theorem read_rows (h : Rows s none) {rest : List RowNo} (hr : s.remote.readOrder = r :: rest) {x : Row}
    (hx : x.state = .reading) :
    Rows { s.setRow r x with remote := { (s.setRow r x).remote with readOrder := rest } } (some r) := by
  have hnodup := h.reads_nodup
  rw [hr, List.nodup_cons] at hnodup
  have hdue : (s.row r).state = .readDue := (h.reads_mem r).1 (by simp [hr])
  refine h.move (r := r) (x := .reading) (fun q => hx ▸ state_setRow x q) rfl rfl (fun q hq => ?_) (iff_of_true rfl rfl)
    hnodup.2 (fun q hq => by simp [hr, hq]) (iff_of_false hnodup.1 nofun) h.waits_nodup (fun q _ => .rfl) ?_
    (fun q _ => .rfl) ?_
  · exact iff_of_false (fun hs => hq (Option.some_inj.1 hs).symm) nofun
  · exact iff_of_false (h.not_mem_waits (by rw [hdue]; nofun)) nofun
  · exact iff_of_false (h.not_due (by rw [hdue]; nofun)) nofun

/-- A row that has settled joins the read order (R136). -/
theorem takeReadExpiry_rows (h : Rows s c) : Rows (s.takeReadExpiry r) c := by
  unfold State.takeReadExpiry
  split
  · next hc =>
    obtain ⟨-, hs⟩ := hc
    have hnot := h.not_mem_reads (r := r) (by rw [hs]; nofun)
    have hcar : c ≠ some r := fun he => by simpa [hs, carriedState] using (h.carried r).2 he
    refine h.move (r := r) (x := .readDue) (fun q => state_setRow (s := s.dropDeadline (.readDue r)) _ q) rfl rfl
      (fun q hq => .rfl) (iff_of_false nofun hcar) (nodup_append_one h.reads_nodup hnot)
      (fun q hq => by simp [State.setRow, hq]) (iff_of_true (by simp) rfl) h.waits_nodup (fun q _ => .rfl) ?_ (fun q hq => ?_) ?_
    · exact iff_of_false (h.not_mem_waits (by rw [hs]; nofun)) nofun
    · change (s.dropDeadline (.readDue r)).HasDeadline (.readDue q) ↔ _
      simp [hq]
    · change (s.dropDeadline (.readDue r)).HasDeadline (.readDue r) ↔ _
      simp
  · exact h

/-- The head of the wait order enters the remote input and becomes FREE (R93, R139). -/
theorem remoteInputEmptied_rows (h : Rows s c) : Rows s.remoteInputEmptied c := by
  unfold State.remoteInputEmptied
  split
  · exact h
  · next r rest hw =>
    have hnodup := h.waits_nodup
    rw [hw, List.nodup_cons] at hnodup
    have hwait : (s.row r).state = .ratioWait := (h.waits_mem r).1 (by simp [hw])
    have hcar : c ≠ some r := fun he => by simpa [hwait, carriedState] using (h.carried r).2 he
    refine h.move (r := r) (x := .free) (fun q => ?_) (by simp [State.setRow]) rfl (fun q hq => .rfl)
      (iff_of_false nofun hcar) h.reads_nodup (fun q _ => .rfl) ?_ hnodup.2 (fun q hq => by simp [hw, hq])
      (iff_of_false hnodup.1 nofun) (fun q hq => hasDeadline_congr (by simp)) ?_
    · exact (state_setRow (s := s.arrive .remoteEngine (rowJob (s.row r))) Row.free q).trans (by rw [row_arrive]; rfl)
    · exact iff_of_false (h.not_mem_reads (by rw [hwait]; nofun)) nofun
    · rw [hasDeadline_congr (s := s) (by simp)]
      exact iff_of_false (h.not_due (by rw [hwait]; nofun)) nofun

/-- The end of a division, which may free the remote input (R92, R93). -/
theorem divisionEnd_rows (h : Rows s c) : Rows s.divisionEnd c := by
  have hremote (u : State) (hu : Rows u c) (j : Job) : Rows (u.divideRemote j) c :=
    remoteInputEmptied_rows (s := { u with ratio := _ }) hu
  have hlocal (u : State) (hu : Rows u c) (j : Job) : Rows (u.divideLocal j) c :=
    hu.congr (by simp) fun q => hasDeadline_congr (by simp)
  have hfreed (u : State) (hu : Rows u c) : Rows u.dividerFreed c := by
    unfold State.dividerFreed
    split
    · exact hu
    · exact hlocal u hu _
    · exact hremote u hu _
    · split
      · refine hlocal _ ?_ _
        exact Rows.congr hu rfl fun _ => .rfl
      · refine hremote _ ?_ _
        exact Rows.congr hu rfl fun _ => .rfl
  unfold State.divisionEnd
  split
  · exact h
  · exact hfreed _ (Rows.congr h rfl fun _ => .rfl)

end Rows

end Sys2Proof.Invariants

/-! The bus controller (7.6, R118, R128): control, attempt, transaction, timer and the two limits go together in every state,
and with them the row whose transaction is carried. -/

namespace Sys2Proof.Invariants

open Sys2Proof.Machine Sys2Proof.Statement Sys2Proof.Claims Sys2Proof.Requests

section Controller

variable {s t : State} {r : RowNo} {c : BusControl}

/-! ## The relation -/

/-- `BusCoherent`, but for RESET_N, with `RemoteCoherent`. -/
structure Coherent (s : State) : Prop where
  transaction : s.bus.control = .idle ↔ s.bus.transaction = none
  attempt : s.bus.control = .idle ↔ s.bus.attempt = 0
  timer : s.bus.timer = timerIn s.bus.rate s.bus.control
  hold : s.HasDeadline .holdLimit ↔ s.bus.control.rising = true
  wait : s.HasDeadline .busWait ↔ s.bus.control.waiting = true
  rows : ∃ c, (s.bus.control = .idle ↔ c = none) ∧ Rows s c

theorem coherent_iff : s.BusCoherent ∧ s.RemoteCoherent ↔ Coherent s ∧ (s.resetN = .low → s.bus.control = .idle) := by
  rw [remoteCoherent_iff]
  exact ⟨fun ⟨⟨h1, h2, h3, h4, h5, h6⟩, h7⟩ => ⟨⟨h1, h2, h3, h4, h5, h7⟩, h6⟩,
    fun ⟨⟨h1, h2, h3, h4, h5, h7⟩, h6⟩ => ⟨⟨h1, h2, h3, h4, h5, h6⟩, h7⟩⟩

/-- Before the machine runs the controller is IDLE, so the clause about RESET_N follows. -/
theorem idle_of_nothingBeforeRunning (h : s.NothingBeforeRunning) (hn : s.resetN = .low) : s.bus.control = .idle :=
  ((nothingBeforeRunning_iff.1 h).2 ((nothingBeforeRunning_iff.1 h).1 hn)).control

/-- The parts of the controller that the relation speaks of stand. -/
structure SameAttempt (x y : BusController) : Prop where
  control : y.control = x.control
  transaction : y.transaction = x.transaction
  attempt : y.attempt = x.attempt
  timer : y.timer = x.timer
  rate : y.rate = x.rate

theorem SameAttempt.refl (x : BusController) : SameAttempt x x := ⟨rfl, rfl, rfl, rfl, rfl⟩

theorem Coherent.congr (h : Coherent s) (hb : SameAttempt s.bus t.bus) (hr : t.remote = s.remote)
    (hd : ∀ i, isEngineItem i = true → (t.HasDeadline i ↔ s.HasDeadline i)) : Coherent t := by
  obtain ⟨c, hc, hrows⟩ := h.rows
  refine ⟨?_, ?_, ?_, ?_, ?_, c, ?_, hrows.congr hr fun q => hd _ rfl⟩
  · rw [hb.control, hb.transaction]
    exact h.transaction
  · rw [hb.control, hb.attempt]
    exact h.attempt
  · rw [hb.timer, hb.rate, hb.control]
    exact h.timer
  · rw [hd _ rfl, hb.control]
    exact h.hold
  · rw [hd _ rfl, hb.control]
    exact h.wait
  · rw [hb.control]
    exact hc

theorem Coherent.of_calm (h : Coherent s) (hc : Calm s t) : Coherent t :=
  h.congr (hc.bus ▸ .refl _) hc.remote hc.engines

theorem Coherent.of_timebase (h : Coherent s) (hb : t.bus = s.bus) (hr : t.remote = s.remote)
    (ht : t.timebase = s.timebase) : Coherent t :=
  h.congr (hb ▸ .refl _) hr fun _ _ => hasDeadline_congr ht

/-- The controller carries a transaction, and the rows have one that is carried; the control may be anywhere. -/
structure Carrying (s : State) : Prop where
  transaction : s.bus.transaction ≠ none
  attempt : s.bus.attempt ≠ 0
  rows : ∃ r, Rows s (some r)

theorem Coherent.carrying (h : Coherent s) (hc : s.bus.control ≠ .idle) : Carrying s := by
  obtain ⟨c, hidle, hrows⟩ := h.rows
  obtain ⟨r, rfl⟩ := Option.ne_none_iff_exists'.1 fun hn => hc (hidle.2 hn)
  exact ⟨fun ht => hc (h.transaction.2 ht), fun ha => hc (h.attempt.2 ha), r, hrows⟩

theorem Carrying.congr (h : Carrying s) (ht : t.bus.transaction = s.bus.transaction) (ha : t.bus.attempt = s.bus.attempt)
    (hr : t.remote = s.remote) (hd : ∀ q, t.HasDeadline (.readDue q) ↔ s.HasDeadline (.readDue q)) : Carrying t := by
  obtain ⟨r, hrows⟩ := h.rows
  exact ⟨ht ▸ h.transaction, ha ▸ h.attempt, r, hrows.congr hr hd⟩

theorem Carrying.dropHold (h : Carrying s) : Carrying (s.dropDeadline .holdLimit) :=
  h.congr rfl rfl rfl fun q => by simp

theorem Carrying.dropWait (h : Carrying s) : Carrying (s.dropDeadline .busWait) :=
  h.congr rfl rfl rfl fun q => by simp

/-! ## Entering a state -/

/-- The controller with a transaction enters a state for which the two limits are right. -/
theorem Carrying.enterBus (h : Carrying s) (hc : c ≠ .idle) (hh : s.HasDeadline .holdLimit ↔ c.rising = true)
    (hw : s.HasDeadline .busWait ↔ c.waiting = true) : Coherent (s.enterBus c) := by
  obtain ⟨r, hrows⟩ := h.rows
  exact ⟨iff_of_false hc h.transaction, iff_of_false hc h.attempt, rfl, hh, hw, some r, iff_of_false hc nofun,
    hrows.congr rfl fun _ => .rfl⟩

theorem ne_idle_of_inAttempt (h : c.inAttempt = true) : c ≠ .idle := by
  rintro rfl
  cases h

theorem waiting_of_inAttempt (h : c.inAttempt = true) : c.waiting = false := by
  cases c <;> first | rfl | cases h

/-- Within an attempt, from a state to another with XCL as much in hold as before. -/
theorem Coherent.enterBus (h : Coherent s) (hs : s.bus.control.inAttempt = true) (hc : c.inAttempt = true)
    (hr : c.rising = s.bus.control.rising) : Coherent (s.enterBus c) := by
  refine (h.carrying (ne_idle_of_inAttempt hs)).enterBus (ne_idle_of_inAttempt hc) (hr ▸ h.hold) ?_
  rw [waiting_of_inAttempt hc, h.wait, waiting_of_inAttempt hs]

/-- XCL is released: the hold limit is placed with the state that waits for the rise (R116). -/
theorem Coherent.releaseXcl (h : Coherent s) (hs : s.bus.control.inAttempt = true) (hc : c.inAttempt = true)
    (hr : c.rising = true) : Coherent (s.releaseXcl c) := by
  have hplaced : Carrying (s.placeDeadline .holdLimit (s.now + Config.holdLimitTicks)) :=
    (h.carrying (ne_idle_of_inAttempt hs)).congr rfl rfl rfl fun q => by simp
  refine hplaced.enterBus (c := c) (ne_idle_of_inAttempt hc) (by simp [hr]) ?_
  rw [hasDeadline_placeDeadline, h.wait, waiting_of_inAttempt hc, waiting_of_inAttempt hs]
  exact ⟨fun hor => hor.resolve_left nofun, .inr⟩

/-- XCL is high: the hold limit is dropped with the state that waited for it (R116). -/
theorem Coherent.xclHigh (h : Coherent s) (hs : s.bus.control.inAttempt = true) (hc : c.inAttempt = true)
    (hr : c.rising = false) : Coherent ((s.dropDeadline .holdLimit).enterBus c) := by
  refine (h.carrying (ne_idle_of_inAttempt hs)).dropHold.enterBus (ne_idle_of_inAttempt hc) (by simp [hr]) ?_
  rw [hasDeadline_dropDeadline, h.wait, waiting_of_inAttempt hc, waiting_of_inAttempt hs]
  exact and_iff_left_of_imp fun hf => nomatch hf

/-! ## The end of a transaction, and a loss -/

/-- What the Remote Engine does with an outcome reaches neither the controller nor a limit of its. -/
structure OutOfBus (s t : State) : Prop where
  bus : t.bus = s.bus
  limits : ∀ i, (∀ r, i ≠ .readDue r) → (t.HasDeadline i ↔ s.HasDeadline i)

theorem remoteError_outOfBus (status : Status) : OutOfBus s (s.remoteError r status) :=
  ⟨by simp, fun _ _ => hasDeadline_congr (by simp)⟩

theorem settleRow_outOfBus (ahead : Stamp) (polls : BitVec 4) : OutOfBus s (s.settleRow r ahead polls) := by
  refine ⟨by simp, fun i hi => ?_⟩
  simp only [State.settleRow, hasDeadline_placeDeadline]
  exact or_iff_right (hi r)

theorem offerRemote_outOfBus (m n : Word) : OutOfBus s (s.offerRemote r m n) :=
  ⟨by simp, fun _ _ => hasDeadline_congr (by simp)⟩

theorem resultBlock_outOfBus (l : List Byte) : OutOfBus s (s.resultBlock r l) := by
  unfold State.resultBlock
  split
  · split
    · exact offerRemote_outOfBus _ _
    · split
      · split
        · exact settleRow_outOfBus _ _
        · exact remoteError_outOfBus _
      · exact remoteError_outOfBus _
  · exact remoteError_outOfBus _

theorem takeOutcome_outOfBus (o : BusOutcome) : OutOfBus s (s.takeOutcome o) := by
  unfold State.takeOutcome
  split
  · exact ⟨rfl, fun _ _ => .rfl⟩
  · split
    · cases o with
      | done => exact settleRow_outOfBus _ _
      | _ => exact remoteError_outOfBus _
    · cases o with
      | done => exact resultBlock_outOfBus _
      | _ => exact remoteError_outOfBus _

/-- A transaction that ends leaves the controller IDLE and no row carried (R128). -/
theorem Carrying.endTransaction (h : Carrying s) (o : BusOutcome) : Coherent (s.endTransaction o) := by
  obtain ⟨r, hrows⟩ := h.rows
  rw [endTransaction_eq]
  have hout := takeOutcome_outOfBus (s := endedBus s) o
  have hlimit (i : DeadlineItem) : (endedBus s).HasDeadline i ↔ (s.HasDeadline i ∧ i ≠ .holdLimit) ∧ i ≠ .busWait := by
    change (without (without s .holdLimit) .busWait).HasDeadline i ↔ _
    rw [← dropDeadline_eq, ← dropDeadline_eq, hasDeadline_dropDeadline, hasDeadline_dropDeadline]
  have hended : Rows (endedBus s) (some r) := hrows.congr (endedBus_remote s) fun q => by simp [hlimit]
  have hidle : ((endedBus s).takeOutcome o).bus.control = .idle := by rw [hout.bus]; rfl
  refine ⟨?_, ?_, ?_, ?_, ?_, none, iff_of_true hidle rfl, takeOutcome_rows hended o⟩
  · exact iff_of_true hidle (by rw [hout.bus]; rfl)
  · exact iff_of_true hidle (by rw [hout.bus]; rfl)
  · rw [hout.bus]
    rfl
  · rw [hout.limits .holdLimit nofun, hlimit, hidle]
    simp [BusControl.rising]
  · rw [hout.limits .busWait nofun, hlimit, hidle]
    simp [BusControl.waiting]

/-- A loss of arbitration: BACKOFF with its wait limit, or the end of the transaction (R126). -/
theorem Carrying.lose (h : Carrying s) : Coherent s.lose := by
  unfold State.lose
  split
  · next hlt =>
    obtain ⟨r, hrows⟩ := h.rows
    have hlimit (i : DeadlineItem) (x : Stamp) : ((s.dropDeadline .holdLimit).placeDeadline .busWait x).HasDeadline i ↔
        i = .busWait ∨ s.HasDeadline i ∧ i ≠ .holdLimit := by simp
    have hbusy : BusControl.backoff false ≠ .idle := nofun
    refine ⟨iff_of_false hbusy h.transaction, iff_of_false hbusy fun ha => ?_, rfl,
      (hlimit _ _).trans (iff_of_false (by simp) nofun), (hlimit _ _).trans (iff_of_true (by simp) rfl), some r,
      iff_of_false hbusy nofun,
      hrows.congr rfl fun q => (hlimit _ _).trans (by simp)⟩
    have hval := congrArg Fin.val (show Fin.ofNat 5 (s.bus.attempt.val + 1) = 0 from ha)
    have hlt : s.bus.attempt.val < 4 := hlt
    simp at hval
    omega
  · exact h.endTransaction _

/-! ## Beginning an attempt -/

theorem Carrying.beginStart (h : Carrying s) (hh : ¬ s.HasDeadline .holdLimit) (xcl : Level) :
    Coherent (s.beginStart xcl) := by
  cases xcl
  · exact h.lose
  · have hseen : Carrying (s.dropDeadline .busWait).sawStart := h.dropWait.congr rfl rfl rfl fun _ => .rfl
    have hlimit (i : DeadlineItem) : (s.dropDeadline .busWait).sawStart.HasDeadline i ↔ s.HasDeadline i ∧ i ≠ .busWait :=
      hasDeadline_dropDeadline
    exact hseen.enterBus nofun (by simp [hlimit, hh, BusControl.rising]) (by simp [hlimit, BusControl.waiting])

theorem Carrying.enterWaitFree (h : Carrying s) (hh : ¬ s.HasDeadline .holdLimit) (hw : s.HasDeadline .busWait)
    (xcl : Level) : Coherent (s.enterWaitFree xcl) := by
  have hentered : Coherent (s.enterBus .waitFree) := h.enterBus nofun (iff_of_false hh nofun) (iff_of_true hw rfl)
  unfold State.enterWaitFree
  dsimp only
  split
  · exact (hentered.carrying nofun).beginStart hh xcl
  · exact hentered

/-- A transaction accepted for the row that is now carried (R118). -/
theorem acceptTransaction_coherent (hh : ¬ s.HasDeadline .holdLimit) (hrows : Rows s (some r)) (x : Transaction)
    (xcl : Level) : Coherent (s.acceptTransaction x xcl) := by
  have hsome : some x ≠ none := nofun
  have hone : (1 : Fin 5) ≠ 0 := nofun
  unfold State.acceptTransaction
  refine Carrying.enterWaitFree ?_ ?_ ?_ xcl
  · refine ⟨hsome, hone, r, hrows.congr rfl fun q => ?_⟩
    simp only [State.placeBusWait, hasDeadline_placeDeadline]
    exact or_iff_right nofun
  · simp only [State.placeBusWait, hasDeadline_placeDeadline]
    exact fun hor => hor.elim nofun hh
  · simp only [State.placeBusWait, hasDeadline_placeDeadline]
    simp

end Controller

section Work

variable {s t : State} {p : Port} {r : RowNo}

/-! ## Clocking bits -/

theorem sawStart_coherent (h : Coherent s) : Coherent s.sawStart :=
  h.congr ⟨rfl, rfl, rfl, rfl, rfl⟩ rfl fun _ _ => .rfl

theorem sawStop_coherent (h : Coherent s) : Coherent s.sawStop :=
  h.congr ⟨rfl, rfl, rfl, rfl, rfl⟩ rfl fun _ _ => .rfl

theorem lineWentLow_coherent (h : Coherent s) : Coherent s.lineWentLow :=
  h.congr ⟨rfl, rfl, rfl, rfl, rfl⟩ rfl fun _ _ => .rfl

theorem afterWritePart_clocks (x : Transaction) : (afterWritePart x).inAttempt = true ∧ (afterWritePart x).rising = false := by
  unfold afterWritePart
  split <;> exact ⟨rfl, rfl⟩

theorem afterAck_clocks (x : Transaction) (y : SentByte) : (afterAck x y).inAttempt = true ∧ (afterAck x y).rising = false := by
  cases y
  · dsimp only [afterAck]
    split
    · exact ⟨rfl, rfl⟩
    · exact afterWritePart_clocks x
  · dsimp only [afterAck]
    split
    · exact ⟨rfl, rfl⟩
    · exact afterWritePart_clocks x
  · exact ⟨rfl, rfl⟩

theorem afterNack_clocks (y : SentByte) : (afterNack y).inAttempt = true ∧ (afterNack y).rising = false := by
  cases y <;> exact ⟨rfl, rfl⟩

theorem endHighHalf_coherent (h : Coherent s) : Coherent s.endHighHalf := by
  unfold State.endHighHalf
  split
  · next hs => split <;> exact h.enterBus (by rw [hs]; rfl) rfl (by rw [hs]; rfl)
  · next hs => exact h.enterBus (by rw [hs]; rfl) (afterAck_clocks _ _).1 (by rw [hs, (afterAck_clocks _ _).2]; rfl)
  · next hs => exact h.enterBus (by rw [hs]; rfl) (afterNack_clocks _).1 (by rw [hs, (afterNack_clocks _).2]; rfl)
  · next bits hs =>
    split
    · have hreceived : Coherent { s with bus := { s.bus with received := s.bus.received ++ [bits] } } :=
        h.congr ⟨rfl, rfl, rfl, rfl, rfl⟩ rfl fun _ _ => .rfl
      exact hreceived.enterBus (by rw [hs]; rfl) rfl (by rw [hs]; rfl)
    · exact h.enterBus (by rw [hs]; rfl) rfl (by rw [hs]; rfl)
  · next hs => split <;> exact h.enterBus (by rw [hs]; rfl) rfl (by rw [hs]; rfl)
  · next hs => exact h.enterBus (by rw [hs]; rfl) rfl (by rw [hs]; rfl)
  · exact h

/-- BACKOFF's first bit half is followed by its second (R127). -/
theorem backoff_coherent (h : Coherent s) (hs : s.bus.control = .backoff false) : Coherent (s.enterBus (.backoff true)) := by
  refine (h.carrying (by rw [hs]; nofun)).enterBus nofun ?_ ?_
  · rw [h.hold, hs]
    rfl
  · rw [h.wait, hs]
    rfl

theorem halfBitPeriodEnd_coherent (h : Coherent s) : Coherent s.halfBitPeriodEnd := by
  unfold State.halfBitPeriodEnd
  split
  · next hs => exact h.enterBus (by rw [hs]; rfl) rfl (by rw [hs]; rfl)
  · next hs => exact h.releaseXcl (by rw [hs]; rfl) rfl rfl
  · next hs => exact h.releaseXcl (by rw [hs]; rfl) rfl rfl
  · next hs => exact h.releaseXcl (by rw [hs]; rfl) rfl rfl
  · next hs => exact h.releaseXcl (by rw [hs]; rfl) rfl rfl
  · next hs => exact h.releaseXcl (by rw [hs]; rfl) rfl rfl
  · next hs => exact h.releaseXcl (by rw [hs]; rfl) rfl rfl
  · next hs =>
    have hs' : s.sawStart.bus.control = .restart (.clocked .high) := hs
    exact (sawStart_coherent h).enterBus (by rw [hs']; rfl) rfl (by rw [hs']; rfl)
  · next hs => exact h.enterBus (by rw [hs]; rfl) rfl (by rw [hs]; rfl)
  · next hs => exact h.enterBus (by rw [hs]; rfl) rfl (by rw [hs]; rfl)
  · next hs => exact backoff_coherent h hs
  · exact endHighHalf_coherent h

theorem xclSampledHigh_coherent (h : Coherent s) (xda : Level) : Coherent (s.xclSampledHigh xda) := by
  have hlose (hc : s.bus.control ≠ .idle) : Coherent (s.dropDeadline .holdLimit).lose := (h.carrying hc).dropHold.lose
  unfold State.xclSampledHigh
  dsimp only
  split
  · next hs =>
    split
    · exact hlose (by rw [hs]; nofun)
    · exact h.xclHigh (by rw [hs]; rfl) rfl rfl
  · next hs => exact h.xclHigh (by rw [hs]; rfl) rfl rfl
  · next hs => exact h.xclHigh (by rw [hs]; rfl) rfl rfl
  · next hs =>
    split
    · exact hlose (by rw [hs]; nofun)
    · exact h.xclHigh (by rw [hs]; rfl) rfl rfl
  · next hs =>
    split
    · exact hlose (by rw [hs]; nofun)
    · exact h.xclHigh (by rw [hs]; rfl) rfl rfl
  · next hs => exact h.xclHigh (by rw [hs]; rfl) rfl rfl
  · exact h

theorem xclPulledLow_coherent (h : Coherent s) : Coherent s.xclPulledLow := by
  have hlow := lineWentLow_coherent h
  unfold State.xclPulledLow
  dsimp only
  split
  · next hs =>
    have hs' : s.lineWentLow.bus.control = .start := hs
    exact hlow.enterBus (by rw [hs']; rfl) rfl (by rw [hs']; rfl)
  · next hs =>
    have hs' : s.lineWentLow.bus.control = .restart (.clocked .high) := hs
    exact (hlow.carrying (by rw [hs']; nofun)).lose
  · next hs =>
    have hs' : s.lineWentLow.bus.control = .restart .pulled := hs
    exact hlow.enterBus (by rw [hs']; rfl) rfl (by rw [hs']; rfl)
  · exact endHighHalf_coherent hlow

/-! ## Conditions, losses and ends -/

theorem inAttempt_of_exposed (h : s.bus.exposed = true) : s.bus.control.inAttempt = true := by
  unfold BusController.exposed at h
  simp only [Bool.and_eq_true] at h
  exact h.1.1.1

theorem foreignStart_coherent (h : Coherent s) : Coherent s.foreignStart := by
  unfold State.foreignStart
  split
  · exact sawStart_coherent h
  · split
    · next he =>
      have hc : s.sawStart.bus.control ≠ .idle := ne_idle_of_inAttempt (inAttempt_of_exposed he)
      exact ((sawStart_coherent h).carrying hc).lose
    · exact h

theorem foreignStop_coherent (h : Coherent s) : Coherent s.foreignStop := by
  unfold State.foreignStop
  split
  · exact sawStop_coherent h
  · split
    · next he =>
      have hc : s.sawStop.bus.control ≠ .idle := ne_idle_of_inAttempt (inAttempt_of_exposed he)
      exact ((sawStop_coherent h).carrying hc).lose
    · exact h

theorem seeCause_coherent (h : Coherent s) (cause : LossCause) :
    Coherent (s.seeCause cause) ∧ (s.seeCause cause).bus.control = s.bus.control := by
  cases cause with
  | foreignStart => exact ⟨sawStart_coherent h, rfl⟩
  | foreignStop => exact ⟨sawStop_coherent h, rfl⟩
  | _ => exact ⟨h, rfl⟩

theorem ne_idle_of_canLose {cause : LossCause} (h : s.bus.canLose cause = true) : s.bus.control ≠ .idle := by
  intro hi
  cases cause <;> simp [BusController.canLose, BusController.exposed, BusControl.inAttempt, hi] at h

theorem lossOfArbitration_coherent (h : Coherent s) (cause : LossCause) : Coherent (s.lossOfArbitration cause) := by
  unfold State.lossOfArbitration
  split
  · next hc =>
    obtain ⟨hseen, hcontrol⟩ := seeCause_coherent h cause
    exact (hseen.carrying (hcontrol ▸ ne_idle_of_canLose hc)).lose
  · exact h

theorem stopCompletes_coherent (h : Coherent s) : Coherent s.stopCompletes := by
  have hend (hc : s.bus.control ≠ .idle) (o : BusOutcome) : Coherent (s.sawStop.endTransaction o) :=
    ((sawStop_coherent h).carrying hc).endTransaction o
  unfold State.stopCompletes
  split
  · next hs => exact hend (by rw [hs]; nofun) _
  · next hs => exact hend (by rw [hs]; nofun) _
  · next hs => exact hend (by rw [hs]; nofun) _
  · exact h

/-! ## Attempts and choices -/

theorem attemptStart_coherent (h : Coherent s) (xcl : Level) : Coherent (s.attemptStart xcl) := by
  unfold State.attemptStart
  split
  · next hc =>
    have hh : ¬ s.HasDeadline .holdLimit := by
      rw [h.hold, hc.1]
      nofun
    exact (h.carrying (by rw [hc.1]; nofun)).beginStart hh xcl
  · exact h

theorem backoffEnd_coherent (h : Coherent s) (xcl : Level) : Coherent (s.backoffEnd xcl) := by
  unfold State.backoffEnd
  split
  · next hs =>
    have hh : ¬ s.HasDeadline .holdLimit := by
      rw [h.hold, hs]
      nofun
    exact (h.carrying (by rw [hs]; nofun)).enterWaitFree hh (h.wait.2 (by rw [hs]; rfl)) xcl
  · exact h

theorem Coherent.rows_of_idle (h : Coherent s) (hi : s.bus.control = .idle) :
    Rows s none ∧ ¬ s.HasDeadline .holdLimit := by
  obtain ⟨c, hc, hrows⟩ := h.rows
  refine ⟨hc.1 hi ▸ hrows, ?_⟩
  rw [h.hold, hi]
  nofun

theorem freeRow_state (hr : s.freeRow = some r) : (s.row r).state = .free := by
  unfold State.freeRow at hr
  have hfound := List.find?_some hr
  exact of_decide_eq_true hfound

theorem chooseTrigger_coherent (h : Coherent s) (xcl : Level) : Coherent (s.chooseTrigger xcl) := by
  unfold State.chooseTrigger
  split
  · next hc =>
    split
    · next r e hr _ =>
      split
      · obtain ⟨hrows, hh⟩ := (h.of_calm (startConversion_calm .remoteEngine e)).rows_of_idle (by simpa using hc.1)
        have hfree : ((s.startConversion .remoteEngine e).row r).state = .free := by
          simpa [State.row] using freeRow_state hr
        refine acceptTransaction_coherent ?_ (setRow_triggering_rows hrows hfree ?_) _ xcl
        · exact hh
        · rfl
      · exact h
    · exact h
  · exact h

theorem chooseRead_coherent (h : Coherent s) (xcl : Level) : Coherent (s.chooseRead xcl) := by
  unfold State.chooseRead
  split
  · next hi =>
    split
    · exact h
    · next r rest hr =>
      obtain ⟨hrows, hh⟩ := h.rows_of_idle hi
      refine acceptTransaction_coherent ?_ (read_rows hrows hr ?_) _ xcl
      · exact hh
      · rfl
  · exact h

/-! ## Expiries -/

theorem takeHoldExpiry_coherent (h : Coherent s) : Coherent s.takeHoldExpiry := by
  unfold State.takeHoldExpiry
  split
  · next hc => exact (h.carrying fun hi => by rw [hi] at hc; exact nomatch hc.2).endTransaction _
  · exact h

theorem takeBusWaitExpiry_coherent (h : Coherent s) : Coherent s.takeBusWaitExpiry := by
  unfold State.takeBusWaitExpiry
  split
  · next hc => exact (h.carrying (by rw [hc.2.1]; nofun)).endTransaction _
  · exact h

theorem takeReadExpiry_coherent (h : Coherent s) (r : RowNo) : Coherent (s.takeReadExpiry r) := by
  obtain ⟨c, hc, hrows⟩ := h.rows
  have hbus : (s.takeReadExpiry r).bus = s.bus := by simp
  have hlimit (i : DeadlineItem) (hi : ∀ q, i ≠ .readDue q) : (s.takeReadExpiry r).HasDeadline i ↔ s.HasDeadline i := by
    unfold State.takeReadExpiry
    split
    · exact hasDeadline_dropDeadline.trans (and_iff_left (hi r))
    · exact .rfl
  refine ⟨?_, ?_, ?_, ?_, ?_, c, ?_, takeReadExpiry_rows hrows⟩
  · rw [hbus]
    exact h.transaction
  · rw [hbus]
    exact h.attempt
  · rw [hbus]
    exact h.timer
  · rw [hbus, hlimit .holdLimit nofun]
    exact h.hold
  · rw [hbus, hlimit .busWait nofun]
    exact h.wait
  · rw [hbus]
    exact hc

theorem closeQuiet_coherent (h : Coherent s) : Coherent (s.closeQuiet p) := by
  refine h.congr ?_ (by simp) fun i hi => ?_
  · rw [show (s.closeQuiet p).bus = s.bus by simp]
    exact .refl _
  · unfold State.closeQuiet
    dsimp only
    split
    · have hcleared : (windowCleared s p).HasDeadline i ↔ s.HasDeadline i := by
        rw [windowCleared, hasDeadline_dropDeadline, hasDeadline_setPort]
        exact and_iff_left fun hq => by rw [hq] at hi; cases hi
      split
      · exact hcleared
      · exact (hasDeadline_congr (State.quietEnds_frame _).2.2.1).trans hcleared
    · exact .rfl

theorem openQuiet_coherent (h : Coherent s) (x : Stamp) : Coherent (s.openQuiet p x) := by
  refine h.congr ?_ (by simp) fun i hi => ?_
  · rw [show (s.openQuiet p x).bus = s.bus by simp]
    exact .refl _
  · unfold State.openQuiet
    dsimp only
    have hset : (windowSet s p x).HasDeadline i ↔ s.HasDeadline i := by
      rw [windowSet, hasDeadline_placeDeadline, hasDeadline_setPort]
      exact or_iff_right fun hq => by rw [hq] at hi; cases hi
    split
    · exact hset
    · exact (hasDeadline_congr (State.quietOnset_frame _).2.2.1).trans hset

theorem decideQuiet_coherent (h : Coherent s) : Coherent (s.decideQuiet p).state := by
  unfold State.decideQuiet
  split
  · split
    · exact closeQuiet_coherent h
    · exact openQuiet_coherent h _
  · exact h

theorem takeExpiry_coherent (h : Coherent s) (i : DeadlineItem) : Coherent (s.takeExpiry i) := by
  cases i with
  | watchDue p i => exact h.of_calm (takeDueExpiry_calm i)
  | claim c => exact h.of_calm (takeClaimExpiry_calm c)
  | quietEnd p =>
    change Coherent (s.takeQuietExpiry p)
    unfold State.takeQuietExpiry
    split
    · exact (closeQuiet_coherent h).of_calm (raise_calm _)
    · exact h
  | readDue r => exact takeReadExpiry_coherent h r
  | holdLimit => exact takeHoldExpiry_coherent h
  | busWait => exact takeBusWaitExpiry_coherent h

/-! ## Every effect -/

theorem resetPort_coherent (h : Coherent s) (pin : Level) : Coherent (s.resetPort p pin) := by
  have hcleared : Coherent (portCleared s p pin) := by
    refine h.congr ?_ (by simp [portCleared]) fun i hi => ?_
    · rw [show (portCleared s p pin).bus = s.bus by simp [portCleared]]
      exact .refl _
    · rw [hasDeadline_dropAll (portCleared_timebase pin)]
      exact and_iff_left (by cases i <;> first | contradiction | rfl)
  rw [resetPort_eq_ended]
  split
  · exact hcleared.of_timebase (by simp) (by simp) (by simp)
  · exact hcleared

theorem Asleep.coherent (h : Asleep s) : Coherent s := by
  have hnone (i : DeadlineItem) : ¬ s.HasDeadline i := by
    rw [hasDeadline_congr (s := State.reset) h.timebase]
    nofun
  have hfree (q : RowNo) : (s.row q).state = .free := by
    rw [State.row, h.remote]
    simp [RemoteEngine.reset, Row.free]
  refine ⟨iff_of_true h.control h.transaction, iff_of_true h.control h.attempt, ?_, ?_, ?_, none,
    iff_of_true h.control rfl, fun q => ?_, ?_, fun q => ?_, ?_, fun q => ?_, fun q => ?_⟩
  · rw [h.timer, h.control]
    rfl
  · rw [h.control]
    exact iff_of_false (hnone _) nofun
  · rw [h.control]
    exact iff_of_false (hnone _) nofun
  · rw [hfree]
    exact iff_of_false nofun nofun
  · rw [h.remote]
    exact List.nodup_nil
  · rw [hfree, h.remote]
    exact iff_of_false nofun nofun
  · rw [h.remote]
    exact List.nodup_nil
  · rw [hfree, h.remote]
    exact iff_of_false nofun nofun
  · rw [hfree]
    exact iff_of_false (hnone _) nofun

theorem releaseDevice_coherent (h : Coherent s) (hlow : s.resetN = .low → s.bus.control = .idle) (xrate : Level) :
    Coherent (s.releaseDevice xrate) := by
  unfold State.releaseDevice
  split
  · next hn =>
    have hi := hlow hn
    have htimer := h.timer
    rw [hi] at htimer
    refine ⟨h.transaction, h.attempt, ?_, h.hold, h.wait, h.rows⟩
    dsimp only
    rw [htimer, hi]
    rfl
  · exact h

theorem advanceTick_coherent (h : Coherent s) (linesHigh : Bool) : Coherent (s.advanceTick linesHigh) := by
  have hadvanced : Coherent { s with timebase := s.timebase.advance } :=
    h.congr (.refl _) rfl fun _ _ => hasDeadline_advance
  refine ((hadvanced.of_calm tap_calm).of_calm tap_calm).congr ?_ rfl fun _ _ => .rfl
  change SameAttempt _ (BusController.idleTick _ _)
  unfold BusController.idleTick
  split
  · split <;> exact ⟨rfl, rfl, rfl, rfl, rfl⟩
  · exact .refl _

theorem Effect.keeps_coherent (h : Effect s t) (hlow : s.resetN = .low → s.bus.control = .idle) (hs : Coherent s) :
    Coherent t := by
  cases h with
  | queue => exact hs.of_timebase rfl rfl rfl
  | registers p x h => exact hs.of_calm (setPort_calm h.quietEnd)
  | convert => exact hs.of_calm decideConvert_calm
  | watch => exact hs.of_calm decideWatch_calm
  | cancel => exact hs.of_calm decideCancel_calm
  | claim => exact hs.of_calm decideClaim_calm
  | release => exact hs.of_calm decideRelease_calm
  | configure => exact hs.of_calm decideConfigure_calm
  | quiet => exact decideQuiet_coherent hs
  | acknowledge p v => exact hs.of_calm (acknowledge_calm v)
  | resetPort p pin => exact resetPort_coherent hs pin
  | resetDevice cause => exact (asleep_resetDevice cause).coherent
  | releaseDevice xrate => exact releaseDevice_coherent hs hlow xrate
  | startRunning =>
    unfold State.startRunning
    split
    · exact hs.congr (.refl _) rfl fun _ _ => .rfl
    · exact hs
  | expiry i => exact takeExpiry_coherent hs i
  | halfCycle => exact hs.of_timebase (by simp) (by simp) (by simp)
  | fastPeriod =>
    unfold State.fastPeriod
    split
    · have hcounted : Coherent { s with timebase := s.timebase.countPeriod } := hs.congr (.refl _) rfl fun _ _ => .rfl
      dsimp only
      split
      · exact hcounted.of_timebase (by simp) (by simp) (by simp)
      · exact hcounted
    · exact hs
  | advanceTick linesHigh => exact advanceTick_coherent hs linesHigh
  | localTake => exact hs.of_timebase (by simp) (by simp) (by simp)
  | divisionEnd =>
    obtain ⟨c, hc, hrows⟩ := hs.rows
    have hd (i : DeadlineItem) : s.divisionEnd.HasDeadline i ↔ s.HasDeadline i := hasDeadline_congr (by simp)
    have hbus : s.divisionEnd.bus = s.bus := by simp
    exact ⟨by rw [hbus]; exact hs.transaction, by rw [hbus]; exact hs.attempt, by rw [hbus]; exact hs.timer,
      by rw [hbus, hd]; exact hs.hold, by rw [hbus, hd]; exact hs.wait, c, by rw [hbus]; exact hc, divisionEnd_rows hrows⟩
  | complete c => exact hs.of_calm (complete_calm c)
  | chooseTrigger xcl => exact chooseTrigger_coherent hs xcl
  | chooseRead xcl => exact chooseRead_coherent hs xcl
  | attemptStart xcl => exact attemptStart_coherent hs xcl
  | stopCompletes => exact stopCompletes_coherent hs
  | lossOfArbitration cause => exact lossOfArbitration_coherent hs cause
  | backoffEnd xcl => exact backoffEnd_coherent hs xcl
  | foreignStart => exact foreignStart_coherent hs
  | foreignStop => exact foreignStop_coherent hs
  | halfBitPeriodEnd => exact halfBitPeriodEnd_coherent hs
  | xclSampledHigh xda => exact xclSampledHigh_coherent hs xda
  | xclPulledLow => exact xclPulledLow_coherent hs
  | lineWentLow => exact lineWentLow_coherent hs

/-- Settles O59: the relation is kept by every effect of a machine in which nothing runs before start-up has ended. -/
theorem stepKeepsBusCoherent : Obligations.StepKeepsBusCoherent := by
  intro s t hsleep hbus hremote h
  have hkept : t.NothingBeforeRunning ∧ Coherent t :=
    step_keeps (I := fun s => s.NothingBeforeRunning ∧ Coherent s)
      (fun he ⟨hn, hc⟩ => ⟨he.keeps_nothingBeforeRunning hn, he.keeps_coherent (idle_of_nothingBeforeRunning hn) hc⟩) h
      ⟨hsleep, (coherent_iff.1 ⟨hbus, hremote⟩).1⟩
  exact coherent_iff.2 ⟨hkept.2, idle_of_nothingBeforeRunning hkept.1⟩

end Work

end Sys2Proof.Invariants

/-! Slots and their records (R22, R23, R73): what a slot is and which records its port's queue holds for it, under each
operation on slots. -/

namespace Sys2Proof.Invariants

open Sys2Proof.Machine Sys2Proof.Statement Sys2Proof.Claims Sys2Proof.Requests Sys2Proof.Responses

section Records

variable {s : State} {p q : Port} {i k : SlotNo} {x : PortState} {y : Slot} {l : List Bool}

/-! ## The relation -/

/-- The finals of the records that a port's queue holds for a slot, in their order. -/
def finalsOf (x : PortState) (i : SlotNo) : List Bool :=
  (x.queue.filter (fun r => decide (r.slot = i))).map (·.final)

/-- A CONVERT's slot keeps what only a WATCH uses at its FREE values. -/
def ConvertPlain (y : Slot) : Prop :=
  y.kind = .convert → y.state ≠ .dormant ∧ y.noticeQueued = false ∧ y.period = 0 ∧ y.nextDue = 0 ∧ y.missed = 0

/-- A slot agrees with the finals of its records. -/
structure SlotSound (y : Slot) (l : List Bool) : Prop where
  finals : l = y.recordFinals
  free : y.state = .free → y = freeSlotValues
  plain : ConvertPlain y

/-- A slot whose request runs, or is about to run, has no record but for a queued notice. -/
structure SlotLive (y : Slot) (l : List Bool) : Prop where
  finals : l = if y.noticeQueued = true then [false] else []
  plain : ConvertPlain y

theorem SlotSound.live (h : SlotSound y l) (hr : y.running = true) : SlotLive y l := by
  refine ⟨?_, h.plain⟩
  have hf := h.finals
  unfold Slot.recordFinals at hf
  unfold Slot.running at hr
  cases hs : y.state <;> simp [hs] at hf hr
  · exact hf
  · exact hf

theorem SlotLive.sound (h : SlotLive y l) (hr : y.running = true) : SlotSound y l := by
  refine ⟨?_, fun hf => ?_, h.plain⟩
  · have hf := h.finals
    unfold Slot.recordFinals
    unfold Slot.running at hr
    cases hs : y.state <;> simp [hs] at hr ⊢
    · exact hf
    · exact hf
  · rw [Slot.running, hf] at hr
    cases hr

/-- The slots that a port does not use. -/
theorem slotSound_reset (pin : Level) : SlotSound (PortState.reset pin).slots[i] (finalsOf (PortState.reset pin) i) := by
  have hslot : (PortState.reset pin).slots[i] = Slot.free := by simp [PortState.reset]
  rw [hslot]
  exact ⟨rfl, fun _ => rfl, fun _ => ⟨nofun, rfl, rfl, rfl, rfl⟩⟩

/-! ## Operations on the queue -/

theorem finalsOf_congr {x' : PortState} (h : x'.queue = x.queue) : finalsOf x' i = finalsOf x i := by
  rw [finalsOf, h, finalsOf]

theorem finals_setSlot : finalsOf ((s.setSlot p i y).port q) k = finalsOf (s.port q) k := by
  rw [State.setSlot, State.port_setPort_eq]
  split
  · next h => subst h; rfl
  · rfl

theorem finals_appendRecord (r : ResponseRecord) :
    finalsOf ((s.appendRecord p r).port q) k =
      if q = p ∧ k = r.slot then finalsOf (s.port q) k ++ [r.final] else finalsOf (s.port q) k := by
  rw [State.appendRecord, State.port_setPort_eq]
  by_cases hq : q = p
  · subst hq
    rw [if_pos rfl]
    by_cases hk : k = r.slot
    · subst hk
      simp [finalsOf, List.filter_append]
    · simp [finalsOf, List.filter_append, hk, Ne.symm hk]
  · rw [if_neg hq, if_neg fun h => hq h.1]

theorem finals_changeRecord {f : ResponseRecord → ResponseRecord} {g : Bool → Bool} (hf : ∀ r, (f r).slot = r.slot)
    (hg : ∀ r, (f r).final = g r.final) :
    finalsOf ((s.changeRecord p i f).port q) k =
      if q = p ∧ k = i then (finalsOf (s.port q) k).map g else finalsOf (s.port q) k := by
  have hslot (v : Word) (r : ResponseRecord) : (if r.slot = i then { f r with version := v } else r).slot = r.slot := by
    split
    · exact hf r
    · rfl
  rw [State.changeRecord, State.port_setPort_eq]
  by_cases hq : q = p
  · subst hq
    rw [if_pos rfl]
    simp only [finalsOf, List.filter_map, Function.comp_def, hslot, List.map_map]
    by_cases hk : k = i
    · subst hk
      simp only [and_self, if_true]
      refine List.map_congr_left fun r hr => ?_
      have hr : r.slot = k := of_decide_eq_true (List.mem_filter.1 hr).2
      simp [hr, hg]
    · rw [if_neg fun h => hk h.2]
      refine List.map_congr_left fun r hr => ?_
      have hr : r.slot = k := of_decide_eq_true (List.mem_filter.1 hr).2
      simp [hr, hk]
  · rw [if_neg hq, if_neg fun h => hq h.1]

theorem slot_appendRecord (r : ResponseRecord) : (s.appendRecord p r).slot q k = s.slot q k := by
  rw [State.slot, State.appendRecord, State.port_setPort_eq]
  split
  · next h => subst h; rfl
  · rfl

theorem slot_changeRecord (f : ResponseRecord → ResponseRecord) : (s.changeRecord p i f).slot q k = s.slot q k := by
  rw [State.slot, State.changeRecord, State.port_setPort_eq]
  split
  · next h => subst h; rfl
  · rfl

/-! ## A delivery -/

/-- The finals of a slot's records after a delivery to it. -/
def servedFinals (y : Slot) (l : List Bool) : List Bool :=
  match y.kind with
  | .convert => l ++ [true]
  | .watch => if y.noticeQueued then l else l ++ [false]

theorem slot_deliver (o : Source) (part : ResultPart) :
    (s.deliver p i o part).slot q k = if q = p ∧ k = i then servedSlot (s.slot p i) else s.slot q k := by
  unfold State.deliver
  dsimp only
  split
  · next hk => rw [slot_appendRecord, State.slot_setSlot_eq, servedSlot_convert hk]
  · next hk =>
    rw [servedSlot_watch hk]
    split
    · rw [slot_changeRecord, State.slot_setSlot_eq]
    · rw [slot_appendRecord, State.slot_setSlot_eq]

theorem finals_deliver (o : Source) (part : ResultPart) :
    finalsOf ((s.deliver p i o part).port q) k =
      if q = p ∧ k = i then servedFinals (s.slot p i) (finalsOf (s.port p) i) else finalsOf (s.port q) k := by
  unfold State.deliver servedFinals
  cases hk : (s.slot p i).kind
  · simp only [hk, finals_appendRecord, finals_setSlot]
    exact ite_congr rfl (fun h => by obtain ⟨rfl, rfl⟩ := h; rfl) fun _ => rfl
  · by_cases hn : (s.slot p i).noticeQueued = true
    · simp only [hk, if_pos hn]
      rw [finals_changeRecord (f := updatedNotice _ o part) (g := id) (fun _ => rfl) (fun _ => rfl), finals_setSlot,
        List.map_id]
      exact ite_congr rfl (fun h => by obtain ⟨rfl, rfl⟩ := h; rfl) fun _ => rfl
    · simp only [hk, if_neg hn, finals_appendRecord, finals_setSlot]
      exact ite_congr rfl (fun h => by obtain ⟨rfl, rfl⟩ := h; rfl) fun _ => rfl

/-- A slot served is sound again. -/
theorem SlotLive.served (h : SlotLive y l) : SlotSound (servedSlot y) (servedFinals y l) := by
  obtain ⟨hf, hp⟩ := h
  cases hk : y.kind with
  | convert =>
    obtain ⟨-, hn, hrest⟩ := hp hk
    rw [servedSlot_convert hk, servedFinals, hk, hf, if_neg (by rw [hn]; nofun)]
    exact ⟨rfl, nofun, fun _ => ⟨nofun, hn, hrest⟩⟩
  | watch =>
    rw [servedSlot_watch hk, servedFinals, hk, hf]
    refine ⟨?_, nofun, fun hc => RequestKind.noConfusion hc⟩
    cases y.noticeQueued <;> rfl

/-! ## The end of a request -/

/-- The finals of a slot's records after the end of its request. -/
def endedFinals (y : Slot) (l : List Bool) : List Bool := if y.noticeQueued then l.map fun _ => true else l ++ [true]

theorem slot_endSlot (d : Disposition) :
    (s.endSlot p i d).slot q k = if q = p ∧ k = i then { s.slot p i with state := .finished } else s.slot q k := by
  have hbefore (y : Slot) : ((if (s.slot p i).kind = .watch then s.dropDeadline (.watchDue p i) else s).setSlot p i y).slot q k
      = if q = p ∧ k = i then y else s.slot q k := by
    rw [State.slot_setSlot_eq]
    refine ite_congr rfl (fun _ => rfl) fun _ => ?_
    split
    · exact State.slot_dropDeadline ..
    · rfl
  unfold State.endSlot
  dsimp only
  split
  · rw [slot_changeRecord, hbefore]
  · rw [slot_appendRecord, hbefore]

theorem finals_endSlot (d : Disposition) :
    finalsOf ((s.endSlot p i d).port q) k =
      if q = p ∧ k = i then endedFinals (s.slot p i) (finalsOf (s.port p) i) else finalsOf (s.port q) k := by
  have hbefore (y : Slot) :
      finalsOf (((if (s.slot p i).kind = .watch then s.dropDeadline (.watchDue p i) else s).setSlot p i y).port q) k
        = finalsOf (s.port q) k := by
    rw [finals_setSlot]
    split
    · rw [State.port_dropDeadline]
    · rfl
  unfold State.endSlot endedFinals
  by_cases hn : (s.slot p i).noticeQueued = true
  · simp only [if_pos hn]
    rw [finals_changeRecord (f := endedNotice _ d) (g := fun _ => true) (fun _ => rfl) (fun _ => rfl), hbefore]
    exact ite_congr rfl (fun h => by obtain ⟨rfl, rfl⟩ := h; rfl) fun _ => rfl
  · simp only [if_neg hn, finals_appendRecord, hbefore]
    exact ite_congr rfl (fun h => by obtain ⟨rfl, rfl⟩ := h; rfl) fun _ => rfl

/-- A slot whose request has ended is sound again. -/
theorem SlotLive.ended (h : SlotLive y l) : SlotSound { y with state := .finished } (endedFinals y l) := by
  obtain ⟨hf, hp⟩ := h
  refine ⟨?_, nofun, fun hk => ⟨nofun, (hp hk).2⟩⟩
  rw [endedFinals, hf]
  cases y.noticeQueued <;> rfl

end Records

end Sys2Proof.Invariants

/-! The ledger of requests (R22, R23, R40, R146): slots, waiter sets, queues and due deadlines in agreement, and the same with
one slot left out while an operation works on it. -/

namespace Sys2Proof.Invariants

open Sys2Proof.Machine Sys2Proof.Statement Sys2Proof.Claims Sys2Proof.Requests Sys2Proof.Responses

section Ledgers

variable {s t : State} {p q : Port} {i k : SlotNo} {c : Channel} {w : Waiter} {ws : List Waiter} {y : Slot}

/-! ## The relation -/

/-- A channel with work is ON, and its waiters stand at it. -/
def Work (s : State) (c : Channel) (ws : List Waiter) : Prop :=
  (s.channel c).enable = true ∧ ∀ w ∈ ws, (s.slot w.port w.slot).channel = c

/-- `RequestsAgree`, by kinds of facts instead of by slots. -/
structure Ledger (s : State) : Prop where
  sound : ∀ q k, SlotSound (s.slot q k) (finalsOf (s.port q) k)
  waits : ∀ q k, s.everyWaiter.count { port := q, slot := k } = if (s.slot q k).state = .waiting then 1 else 0
  dues : ∀ q k, s.HasDeadline (.watchDue q k) ↔ (s.slot q k).kind = .watch ∧ (s.slot q k).running = true
  enabled : ∀ q k, (s.slot q k).running = true → (s.channel (s.slot q k).channel).enable = true
  pending : ∀ e ∈ s.pendingList, e.waiters ≠ [] ∧ Work s e.channel e.waiters
  inFlight : ∀ r ∈ s.inFlight, Work s r.channel r.waiters

theorem requestsAgree_iff : s.RequestsAgree ↔ Ledger s := by
  constructor
  · rintro ⟨hslots, hpending, hflight⟩
    have hslot (q : Port) (k : SlotNo) : s.SlotAgrees q k := by
      cases q
      · exact (hslots k).1
      · exact (hslots k).2
    exact ⟨fun q k => ⟨(hslot q k).2.1, (hslot q k).2.2.2.1, (hslot q k).2.2.2.2.1⟩, fun q k => (hslot q k).1,
      fun q k => (hslot q k).2.2.1, fun q k => (hslot q k).2.2.2.2.2, hpending, hflight⟩
  · intro h
    have hslot (q : Port) (k : SlotNo) : s.SlotAgrees q k :=
      ⟨h.waits q k, (h.sound q k).finals, h.dues q k, (h.sound q k).free, (h.sound q k).plain, h.enabled q k⟩
    exact ⟨fun k => ⟨hslot .a k, hslot .b k⟩, h.pending, h.inFlight⟩

/-- A slot with a waiter is WAITING. -/
theorem Ledger.waiting_of_mem (h : Ledger s) (hw : w ∈ s.everyWaiter) : (s.slot w.port w.slot).state = .waiting := by
  refine Classical.byContradiction fun hs => ?_
  have hcount := h.waits w.port w.slot
  rw [if_neg hs] at hcount
  exact List.count_eq_zero.1 hcount hw

theorem Ledger.not_mem_of_not_waiting (h : Ledger s) (hs : (s.slot p i).state ≠ .waiting) :
    { port := p, slot := i } ∉ s.everyWaiter := fun hw => hs (h.waiting_of_mem hw)

theorem mem_everyWaiter_of_pending {e : PendingEntry} (he : e ∈ s.pendingList) (hw : w ∈ e.waiters) : w ∈ s.everyWaiter :=
  List.mem_append_left _ (List.mem_flatMap.2 ⟨e, he, hw⟩)

theorem mem_everyWaiter_of_inFlight {r : ConversionRecord} (hr : r ∈ s.inFlight) (hw : w ∈ r.waiters) :
    w ∈ s.everyWaiter := List.mem_append_right _ (List.mem_flatMap.2 ⟨r, hr, hw⟩)

theorem Work.congr (h : Work s c ws) (hslot : ∀ w ∈ ws, (t.slot w.port w.slot).channel = (s.slot w.port w.slot).channel)
    (hon : (s.channel c).enable = true → (t.channel c).enable = true) : Work t c ws :=
  ⟨hon h.1, fun w hw => (hslot w hw).trans (h.2 w hw)⟩

/-- What leaves slots, records, waiter sets and due deadlines, and turns no channel OFF. -/
theorem Ledger.congr (h : Ledger s) (hports : ∀ q, (t.port q).slots = (s.port q).slots ∧ (t.port q).queue = (s.port q).queue)
    (hp : t.pendingList = s.pendingList)
    (hf : t.inFlight.map (fun r => (r.channel, r.waiters)) = s.inFlight.map (fun r => (r.channel, r.waiters)))
    (hd : ∀ q k, t.HasDeadline (.watchDue q k) ↔ s.HasDeadline (.watchDue q k))
    (hon : ∀ c, (s.channel c).enable = true → (t.channel c).enable = true) : Ledger t := by
  have hslot (q : Port) (k : SlotNo) : t.slot q k = s.slot q k := by rw [State.slot, (hports q).1, State.slot]
  have hwaiters : t.everyWaiter = s.everyWaiter := by
    have hflat (l : List ConversionRecord) : l.flatMap (·.waiters) = (l.map fun r => (r.channel, r.waiters)).flatMap (·.2) := by
      rw [List.flatMap_map]
    rw [State.everyWaiter, State.everyWaiter, hp, hflat, hf, ← hflat]
  have hwork {c : Channel} {ws : List Waiter} (h : Work s c ws) : Work t c ws := h.congr (fun w _ => by rw [hslot]) (hon c)
  refine ⟨fun q k => ?_, fun q k => ?_, fun q k => ?_, fun q k => ?_, fun e he => ?_, fun r hr => ?_⟩
  · rw [hslot, finalsOf_congr (hports q).2]
    exact h.sound q k
  · rw [hslot, hwaiters]
    exact h.waits q k
  · rw [hslot, hd]
    exact h.dues q k
  · rw [hslot]
    exact fun hr => hon _ (h.enabled q k hr)
  · rw [hp] at he
    exact ⟨(h.pending e he).1, hwork (h.pending e he).2⟩
  · have hmem : (r.channel, r.waiters) ∈ s.inFlight.map fun r => (r.channel, r.waiters) := hf ▸ List.mem_map_of_mem hr
    obtain ⟨r', hr', heq⟩ := List.mem_map.1 hmem
    obtain ⟨hc, hws⟩ := Prod.mk.inj heq
    rw [← hc, ← hws]
    exact hwork (h.inFlight r' hr')

/-! ## With one slot left out -/

/-- The ledger but for one slot, which waits nowhere. -/
structure LedgerBut (s : State) (p : Port) (i : SlotNo) : Prop where
  sound : ∀ q k, ¬ (q = p ∧ k = i) → SlotSound (s.slot q k) (finalsOf (s.port q) k)
  idle : { port := p, slot := i } ∉ s.everyWaiter
  waits : ∀ q k, ¬ (q = p ∧ k = i) →
    s.everyWaiter.count { port := q, slot := k } = if (s.slot q k).state = .waiting then 1 else 0
  dues : ∀ q k, ¬ (q = p ∧ k = i) →
    (s.HasDeadline (.watchDue q k) ↔ (s.slot q k).kind = .watch ∧ (s.slot q k).running = true)
  enabled : ∀ q k, ¬ (q = p ∧ k = i) → (s.slot q k).running = true → (s.channel (s.slot q k).channel).enable = true
  pending : ∀ e ∈ s.pendingList, e.waiters ≠ [] ∧ Work s e.channel e.waiters
  inFlight : ∀ r ∈ s.inFlight, Work s r.channel r.waiters

/-- A slot that does not wait is left out. -/
theorem Ledger.but (h : Ledger s) (hs : (s.slot p i).state ≠ .waiting) : LedgerBut s p i :=
  ⟨fun q k _ => h.sound q k, h.not_mem_of_not_waiting hs, fun q k _ => h.waits q k, fun q k _ => h.dues q k,
    fun q k _ => h.enabled q k, h.pending, h.inFlight⟩

/-- The slot left out is taken in again. -/
theorem LedgerBut.close (h : LedgerBut s p i) (hsound : SlotSound (s.slot p i) (finalsOf (s.port p) i))
    (hs : (s.slot p i).state ≠ .waiting)
    (hd : s.HasDeadline (.watchDue p i) ↔ (s.slot p i).kind = .watch ∧ (s.slot p i).running = true)
    (he : (s.slot p i).running = true → (s.channel (s.slot p i).channel).enable = true) : Ledger s := by
  refine ⟨fun q k => ?_, fun q k => ?_, fun q k => ?_, fun q k => ?_, h.pending, h.inFlight⟩ <;>
    by_cases hqk : q = p ∧ k = i
  · obtain ⟨rfl, rfl⟩ := hqk
    exact hsound
  · exact h.sound q k hqk
  · obtain ⟨rfl, rfl⟩ := hqk
    rw [if_neg hs, List.count_eq_zero]
    exact h.idle
  · exact h.waits q k hqk
  · obtain ⟨rfl, rfl⟩ := hqk
    exact hd
  · exact h.dues q k hqk
  · obtain ⟨rfl, rfl⟩ := hqk
    exact he
  · exact h.enabled q k hqk

/-- Work on the slot left out, its records and its due deadline. -/
theorem LedgerBut.congr (h : LedgerBut s p i) (hslot : ∀ q k, ¬ (q = p ∧ k = i) → t.slot q k = s.slot q k)
    (hfinals : ∀ q k, ¬ (q = p ∧ k = i) → finalsOf (t.port q) k = finalsOf (s.port q) k)
    (hp : t.pendingList = s.pendingList) (hf : t.inFlight = s.inFlight)
    (hd : ∀ q k, ¬ (q = p ∧ k = i) → (t.HasDeadline (.watchDue q k) ↔ s.HasDeadline (.watchDue q k)))
    (hc : t.channels = s.channels) : LedgerBut t p i := by
  have hwaiters : t.everyWaiter = s.everyWaiter := by rw [State.everyWaiter, hp, hf, State.everyWaiter]
  have hchannel (c : Channel) : t.channel c = s.channel c := by rw [State.channel, hc, State.channel]
  have hwork {c : Channel} {ws : List Waiter} (hw : ∀ w ∈ ws, w ∈ s.everyWaiter) (h' : Work s c ws) : Work t c ws :=
    h'.congr (fun w hm => by rw [hslot _ _ fun heq => h.idle (heq.1 ▸ heq.2 ▸ hw w hm)]) (by rw [hchannel]; exact id)
  refine ⟨fun q k hqk => ?_, hwaiters ▸ h.idle, fun q k hqk => ?_, fun q k hqk => ?_, fun q k hqk => ?_, fun e he => ?_,
    fun r hr => ?_⟩
  · rw [hslot q k hqk, hfinals q k hqk]
    exact h.sound q k hqk
  · rw [hslot q k hqk, hwaiters]
    exact h.waits q k hqk
  · rw [hslot q k hqk, hd q k hqk]
    exact h.dues q k hqk
  · rw [hslot q k hqk, hchannel]
    exact h.enabled q k hqk
  · rw [hp] at he
    exact ⟨(h.pending e he).1, hwork (fun w hw => mem_everyWaiter_of_pending he hw) (h.pending e he).2⟩
  · rw [hf] at hr
    exact hwork (fun w hw => mem_everyWaiter_of_inFlight hr hw) (h.inFlight r hr)

theorem LedgerBut.setSlot (h : LedgerBut s p i) (y : Slot) : LedgerBut (s.setSlot p i y) p i :=
  h.congr (fun q k hqk => by rw [State.slot_setSlot_eq, if_neg hqk]) (fun q k _ => finals_setSlot) (by simp) (by simp)
    (fun q k _ => by simp) (by simp)

theorem LedgerBut.placeDue (h : LedgerBut s p i) (x : Stamp) : LedgerBut (s.placeDeadline (.watchDue p i) x) p i := by
  refine h.congr (fun q k _ => by simp) (fun q k _ => by simp) rfl rfl (fun q k hqk => ?_) rfl
  rw [hasDeadline_placeDeadline]
  exact or_iff_right fun heq => hqk (by cases heq; exact ⟨rfl, rfl⟩)

/-! ## The end of a request, and a delivery -/

theorem endSlot_ledger (h : LedgerBut s p i) (hl : SlotLive (s.slot p i) (finalsOf (s.port p) i))
    (hd : s.HasDeadline (.watchDue p i) → (s.slot p i).kind = .watch) (d : Disposition) : Ledger (s.endSlot p i d) := by
  have hbut : LedgerBut (s.endSlot p i d) p i := by
    refine h.congr (fun q k hqk => by rw [slot_endSlot, if_neg hqk]) (fun q k hqk => by rw [finals_endSlot, if_neg hqk])
      (by simp) (by simp) (fun q k hqk => ?_) (by simp)
    rw [hasDeadline_dropAll (endSlot_timebase i d)]
    exact and_iff_left (by simpa [dueOf] using fun _ hq hk => hqk ⟨hq, hk⟩)
  have hslot : (s.endSlot p i d).slot p i = { s.slot p i with state := .finished } := by
    rw [slot_endSlot, if_pos ⟨rfl, rfl⟩]
  have hstopped : ((s.endSlot p i d).slot p i).running ≠ true := by rw [hslot]; nofun
  refine hbut.close ?_ (by rw [hslot]; nofun) (iff_of_false ?_ fun hr => hstopped hr.2) fun hr => absurd hr hstopped
  · rw [hslot, finals_endSlot, if_pos ⟨rfl, rfl⟩]
    exact hl.ended
  · rw [hasDeadline_dropAll (endSlot_timebase i d)]
    rintro ⟨hdue, hkept⟩
    simp [dueOf, hd hdue] at hkept

theorem running_servedSlot (y : Slot) : (servedSlot y).running = true ↔ y.kind = .watch := by
  cases hk : y.kind
  · rw [servedSlot_convert hk]
    exact iff_of_false nofun nofun
  · rw [servedSlot_watch hk]
    exact iff_of_true rfl rfl

theorem servedSlot_kept (y : Slot) : (servedSlot y).kind = y.kind ∧ (servedSlot y).channel = y.channel
    ∧ (servedSlot y).state ≠ .waiting := by
  cases hk : y.kind
  · rw [servedSlot_convert hk]
    exact ⟨hk, rfl, nofun⟩
  · rw [servedSlot_watch hk]
    exact ⟨hk, rfl, nofun⟩

theorem deliver_ledger (h : LedgerBut s p i) (hl : SlotLive (s.slot p i) (finalsOf (s.port p) i))
    (hd : s.HasDeadline (.watchDue p i) ↔ (s.slot p i).kind = .watch)
    (he : (s.channel (s.slot p i).channel).enable = true) (o : Source) (part : ResultPart) :
    Ledger (s.deliver p i o part) := by
  have hbut : LedgerBut (s.deliver p i o part) p i :=
    h.congr (fun q k hqk => by rw [slot_deliver, if_neg hqk]) (fun q k hqk => by rw [finals_deliver, if_neg hqk])
      (by simp) (by simp) (fun q k _ => hasDeadline_congr (by simp)) (by simp)
  have hslot : (s.deliver p i o part).slot p i = servedSlot (s.slot p i) := by rw [slot_deliver, if_pos ⟨rfl, rfl⟩]
  obtain ⟨hkind, hchannel, hstate⟩ := servedSlot_kept (s.slot p i)
  refine hbut.close ?_ (hslot ▸ hstate) ?_ fun _ => ?_
  · rw [hslot, finals_deliver, if_pos ⟨rfl, rfl⟩]
    exact hl.served
  · rw [hasDeadline_congr (s := s) (by simp), hslot, hkind, running_servedSlot, and_self]
    exact hd
  · rw [hslot, hchannel, State.channel, (State.deliver_frame s p i o part).2.2.2.1]
    exact he

end Ledgers

end Sys2Proof.Invariants

/-! The waiter sets under a request, a removal, a take, a discard and a withdrawal: which waiters stand anywhere, counted. -/

namespace Sys2Proof.Invariants

open Sys2Proof.Machine Sys2Proof.Statement Sys2Proof.Claims Sys2Proof.Requests Sys2Proof.Responses

section Waiters

variable {s t : State} {p q : Port} {i k : SlotNo} {c : Channel} {w : Waiter} {ws : List Waiter} {l : List PendingEntry}

/-! ## Adding to a set -/

theorem addWaiter_perm (h : w ∉ ws) : (addWaiter w ws).Perm (w :: ws) := by
  induction ws with
  | nil => exact .refl _
  | cons x xs ih =>
    have hx : w ≠ x := fun hx => h (hx ▸ List.mem_cons_self)
    unfold addWaiter
    rw [if_neg hx]
    split
    · exact .refl _
    · exact ((ih fun hm => h (List.mem_cons_of_mem x hm)).cons x).trans (.swap w x xs)

theorem unionWaiters_perm {xs ys : List Waiter} (h : (xs ++ ys).Nodup) : (unionWaiters xs ys).Perm (xs ++ ys) := by
  induction xs with
  | nil => exact .refl _
  | cons x xs ih =>
    obtain ⟨hx, hrest⟩ := List.nodup_cons.1 h
    have hunion : (unionWaiters xs ys).Perm (xs ++ ys) := ih hrest
    exact (addWaiter_perm fun hm => hx (hunion.mem_iff.1 hm)).trans (hunion.cons x)

/-! ## Joining an entry or placing one (R45, R46) -/

/-- The waiters of a list of entries, one set after the other. -/
abbrev waitersIn (l : List PendingEntry) : List Waiter := l.flatMap (·.waiters)

theorem map_join_perm (hn : (l.map (·.channel)).Nodup) (hc : c ∈ l.map (·.channel)) (hw : w ∉ waitersIn l) :
    (waitersIn (l.map fun e => if e.channel = c then { e with waiters := addWaiter w e.waiters } else e)).Perm
      (w :: waitersIn l) := by
  induction l with
  | nil => cases hc
  | cons e l ih =>
    obtain ⟨he, hl⟩ := List.nodup_cons.1 hn
    have hwe : w ∉ e.waiters := fun hm => hw (List.mem_append_left _ hm)
    by_cases hec : e.channel = c
    · have hrest : l.map (fun e => if e.channel = c then { e with waiters := addWaiter w e.waiters } else e) = l := by
        refine (List.map_congr_left fun d hd => if_neg fun hdc => he ?_).trans (List.map_id l)
        have hmem := List.mem_map_of_mem (f := PendingEntry.channel) hd
        rwa [hdc, ← hec] at hmem
      rw [List.map_cons, hrest, if_pos hec]
      exact (addWaiter_perm hwe).append_right _
    · have hcl : c ∈ l.map (·.channel) := (List.mem_cons.1 hc).resolve_left (Ne.symm hec)
      rw [List.map_cons, if_neg hec]
      exact ((ih hl hcl fun hm => hw (List.mem_append_right _ hm)).append_left e.waiters).trans List.perm_middle

theorem joinOrPlace_perm (hn : (l.map (·.channel)).Nodup) (hw : w ∉ waitersIn l) :
    (waitersIn (joinOrPlace c w l)).Perm (w :: waitersIn l) := by
  unfold joinOrPlace
  split
  · next h => exact map_join_perm hn (by simpa using h) hw
  · rw [waitersIn, List.flatMap_append]
    exact List.perm_append_singleton w _

theorem mem_joinOrPlace {e : PendingEntry} (h : e ∈ joinOrPlace c w l) :
    e ∈ l ∨ e.channel = c ∧ e.waiters ≠ [] ∧ ∀ v ∈ e.waiters, v = w ∨ ∃ e' ∈ l, e'.channel = c ∧ v ∈ e'.waiters := by
  unfold joinOrPlace at h
  split at h
  · obtain ⟨e', he', heq⟩ := List.mem_map.1 h
    split at heq
    · next hc =>
      subst heq
      refine .inr ⟨hc, List.ne_nil_of_mem ((mem_addWaiter w w _).2 (.inl rfl)), fun v hv => ?_⟩
      exact ((mem_addWaiter v w _).1 hv).imp_right fun hv => ⟨e', he', hc, hv⟩
    · exact .inl (heq ▸ he')
  · rcases List.mem_append.1 h with h | h
    · exact .inl h
    · obtain rfl := List.mem_singleton.1 h
      exact .inr ⟨rfl, nofun, fun v hv => .inl (List.mem_singleton.1 hv)⟩

/-- A waiter placed among the others, counted. -/
theorem count_of_perm_cons {l l' : List Waiter} (h : l'.Perm (w :: l)) (v : Waiter) :
    l'.count v = l.count v + if v = w then 1 else 0 := by
  rw [h.count_eq, List.count_cons]
  exact congrArg _ (ite_congr (propext (beq_iff_eq.trans eq_comm)) (fun _ => rfl) fun _ => rfl)

theorem SlotLive.waiting {y : Slot} {m : List Bool} (h : SlotLive y m) (x : Stamp) :
    SlotSound { y with state := .waiting, joinStamp := x } m :=
  SlotLive.sound ⟨h.finals, fun hk => ⟨nofun, (h.plain hk).2⟩⟩ rfl

/-- The slot left out waits at its channel's pending entry. -/
theorem LedgerBut.wait (h : LedgerBut s p i) (hn : (s.pendingList.map (·.channel)).Nodup) {y : Slot}
    (hy : y.state = .waiting) (hl : SlotSound y (finalsOf (s.port p) i))
    (hd : s.HasDeadline (.watchDue p i) ↔ y.kind = .watch) (he : (s.channel y.channel).enable = true)
    (ht : t = { s.setSlot p i y with pendingList := joinOrPlace y.channel { port := p, slot := i } s.pendingList }) :
    Ledger t := by
  have hport (q : Port) : t.port q = (s.setPort p (withSlot (s.port p) i y)).port q := by
    rw [ht]
    cases q <;> rfl
  have hslot (q : Port) (k : SlotNo) : t.slot q k = if q = p ∧ k = i then y else s.slot q k := by
    rw [State.slot, hport, ← State.slot_setSlot_eq]
    rfl
  have hfinals (q : Port) (k : SlotNo) : finalsOf (t.port q) k = finalsOf (s.port q) k := by
    rw [hport]
    exact finals_setSlot
  have hchannel (c : Channel) : t.channel c = s.channel c := by
    rw [ht]
    exact State.channel_setSlot ..
  have hdue (j : DeadlineItem) : t.HasDeadline j ↔ s.HasDeadline j := hasDeadline_congr (by rw [ht]; simp)
  have hflight : t.inFlight = s.inFlight := by
    rw [ht]
    exact State.setSlot_inFlight ..
  have hpending : t.pendingList = joinOrPlace y.channel { port := p, slot := i } s.pendingList := by rw [ht]
  have hidle : { port := p, slot := i } ∉ waitersIn s.pendingList := fun hm => h.idle (List.mem_append_left _ hm)
  have hwaiters : t.everyWaiter.Perm ({ port := p, slot := i } :: s.everyWaiter) := by
    rw [State.everyWaiter, hpending, hflight]
    exact (joinOrPlace_perm hn hidle).append_right _
  have hother {v : Waiter} (hv : v ∈ s.everyWaiter) : t.slot v.port v.slot = s.slot v.port v.slot := by
    rw [hslot, if_neg fun (heq : v.port = p ∧ v.slot = i) => h.idle (heq.1 ▸ heq.2 ▸ hv)]
  have hwork {c : Channel} {ws : List Waiter} (hw : ∀ w ∈ ws, w ∈ s.everyWaiter) (h' : Work s c ws) : Work t c ws :=
    h'.congr (fun w hm => by rw [hother (hw w hm)]) (by rw [hchannel]; exact id)
  refine ⟨fun q k => ?_, fun q k => ?_, fun q k => ?_, fun q k => ?_, fun e hmem => ?_, fun r hr => ?_⟩
  · rw [hslot, hfinals]
    split
    · next hqk => obtain ⟨rfl, rfl⟩ := hqk; exact hl
    · next hqk => exact h.sound q k hqk
  · rw [hslot, count_of_perm_cons hwaiters]
    by_cases hqk : q = p ∧ k = i
    · obtain ⟨rfl, rfl⟩ := hqk
      simp [hy, List.count_eq_zero.2 h.idle]
    · have hne : ({ port := q, slot := k } : Waiter) ≠ { port := p, slot := i } := fun heq => hqk (by cases heq; exact ⟨rfl, rfl⟩)
      rw [if_neg hqk, if_neg hne, h.waits q k hqk, Nat.add_zero]
  · rw [hslot, hdue]
    split
    · next hqk =>
      obtain ⟨rfl, rfl⟩ := hqk
      simpa [Slot.running, hy] using hd
    · next hqk => exact h.dues q k hqk
  · rw [hslot, hchannel]
    split
    · exact fun _ => he
    · next hqk => exact h.enabled q k hqk
  · rw [hpending] at hmem
    rcases mem_joinOrPlace hmem with hmem | ⟨hc, hne, hws⟩
    · exact ⟨(h.pending e hmem).1, hwork (fun w hw => mem_everyWaiter_of_pending hmem hw) (h.pending e hmem).2⟩
    · refine ⟨hne, by rw [hc, hchannel]; exact he, fun v hv => ?_⟩
      rw [hc]
      rcases hws v hv with rfl | ⟨e', he', hc', hv'⟩
      · rw [hslot, if_pos ⟨rfl, rfl⟩]
      · rw [hother (mem_everyWaiter_of_pending he' hv'), ← hc']
        exact (h.pending e' he').2.2 v hv'
  · rw [hflight] at hr
    exact hwork (fun w hw => mem_everyWaiter_of_inFlight hr hw) (h.inFlight r hr)

/-- The conversion request procedure for the slot left out (R43 to R46). -/
theorem requestConversion_ledger (h : LedgerBut s p i) (hn : (s.pendingList.map (·.channel)).Nodup)
    (hl : SlotLive (s.slot p i) (finalsOf (s.port p) i))
    (hd : s.HasDeadline (.watchDue p i) ↔ (s.slot p i).kind = .watch)
    (he : (s.channel (s.slot p i).channel).enable = true) : Ledger (s.requestConversion p i) := by
  unfold State.requestConversion
  dsimp only
  split
  · exact deliver_ledger h hl hd he _ _
  · exact h.wait hn rfl (hl.waiting s.now) hd he (by simp)

/-! ## Removal (R55, R56) -/

theorem waitersIn_thinned (f : Waiter → Bool) (l : List PendingEntry) :
    waitersIn (l.filterMap (thinnedEntry f)) = (waitersIn l).filter fun w => !f w := by
  induction l with
  | nil => rfl
  | cons e l ih =>
    have hhead : ((thinnedEntry f e).toList.flatMap (·.waiters)) = e.waiters.filter fun w => !f w := by
      unfold thinnedEntry dropWaiters
      split
      · dsimp only
        split
        · next h => exact (List.isEmpty_iff.1 h).symm
        · simp
      · next h =>
        simp only [Option.toList_some, List.flatMap_cons, List.flatMap_nil, List.append_nil]
        refine (List.filter_eq_self.2 fun w hw => ?_).symm
        simpa using fun hf => h (List.any_eq_true.2 ⟨w, hw, hf⟩)
    rw [List.filterMap_cons, waitersIn, waitersIn, List.flatMap_cons, List.filter_append, ← hhead, ← ih]
    cases thinnedEntry f e <;> simp [waitersIn]

theorem everyWaiter_removeWaiters (f : Waiter → Bool) :
    (s.removeWaiters f).everyWaiter = s.everyWaiter.filter fun w => !f w := by
  rw [State.everyWaiter, State.everyWaiter, List.filter_append]
  congr 1
  · exact waitersIn_thinned f _
  · rw [State.removeWaiters, List.flatMap_map, List.filter_flatMap]
    rfl

theorem thinnedEntry_some {f : Waiter → Bool} {e e' : PendingEntry} (h : thinnedEntry f e = some e') (hne : e.waiters ≠ []) :
    e'.channel = e.channel ∧ e'.waiters ≠ [] ∧ e'.waiters ⊆ e.waiters := by
  unfold thinnedEntry at h
  split at h
  · dsimp only at h
    split at h
    · cases h
    · next hn =>
      cases h
      exact ⟨rfl, fun hnil => hn (List.isEmpty_iff.2 hnil), List.filter_sublist.subset⟩
  · cases h
    exact ⟨rfl, hne, List.Subset.refl _⟩

end Waiters

end Sys2Proof.Invariants

/-! What the operations on the shared tables make of the ledger of requests, one slot at a time and then many. -/

namespace Sys2Proof.Invariants

open Sys2Proof.Machine Sys2Proof.Statement Sys2Proof.Claims Sys2Proof.Requests Sys2Proof.Responses

section OneSlot

variable {s t : State} {p q : Port} {i k : SlotNo} {c : Channel} {w : Waiter} {ws : List Waiter} {y : Slot}

/-! ## A slot changed that waits as before -/

theorem Ledger.change (h : Ledger s) (hslot : ∀ q k, t.slot q k = if q = p ∧ k = i then y else s.slot q k)
    (hfinals : ∀ q k, ¬ (q = p ∧ k = i) → finalsOf (t.port q) k = finalsOf (s.port q) k)
    (hsound : SlotSound y (finalsOf (t.port p) i)) (hw : y.state = .waiting ↔ (s.slot p i).state = .waiting)
    (hch : y.state = .waiting → y.channel = (s.slot p i).channel)
    (hd : ∀ q k, ¬ (q = p ∧ k = i) → (t.HasDeadline (.watchDue q k) ↔ s.HasDeadline (.watchDue q k)))
    (hdi : t.HasDeadline (.watchDue p i) ↔ y.kind = .watch ∧ y.running = true)
    (he : y.running = true → (s.channel y.channel).enable = true) (hp : t.pendingList = s.pendingList)
    (hf : t.inFlight = s.inFlight) (hc : t.channels = s.channels) : Ledger t := by
  have hchannel (c : Channel) : t.channel c = s.channel c := by rw [State.channel, hc, State.channel]
  have hwaiters : t.everyWaiter = s.everyWaiter := by rw [State.everyWaiter, hp, hf, State.everyWaiter]
  have hwork {c : Channel} {ws : List Waiter} (hm : ∀ w ∈ ws, w ∈ s.everyWaiter) (h' : Work s c ws) : Work t c ws := by
    refine h'.congr (fun w hmem => ?_) (by rw [hchannel]; exact id)
    rw [hslot]
    split
    · next heq =>
      have hwait := h.waiting_of_mem (hm w hmem)
      rw [heq.1, heq.2] at hwait ⊢
      exact hch (hw.2 hwait)
    · rfl
  refine ⟨fun q k => ?_, fun q k => ?_, fun q k => ?_, fun q k => ?_, fun e hmem => ?_, fun r hr => ?_⟩
  · rw [hslot]
    split
    · next hqk => obtain ⟨rfl, rfl⟩ := hqk; exact hsound
    · next hqk => rw [hfinals q k hqk]; exact h.sound q k
  · rw [hwaiters, h.waits, hslot]
    by_cases hqk : q = p ∧ k = i
    · obtain ⟨rfl, rfl⟩ := hqk
      exact ite_congr (propext (by simpa using hw.symm)) (fun _ => rfl) fun _ => rfl
    · rw [if_neg hqk]
  · rw [hslot]
    split
    · next hqk => obtain ⟨rfl, rfl⟩ := hqk; exact hdi
    · next hqk => rw [hd q k hqk]; exact h.dues q k
  · rw [hslot, hchannel]
    split
    · exact he
    · exact h.enabled q k
  · rw [hp] at hmem
    exact ⟨(h.pending e hmem).1, hwork (fun w hw => mem_everyWaiter_of_pending hmem hw) (h.pending e hmem).2⟩
  · rw [hf] at hr
    exact hwork (fun w hw => mem_everyWaiter_of_inFlight hr hw) (h.inFlight r hr)

/-! ## Requests accepted (R25, R27) -/

theorem freeSlot_state (h : s.freeSlot p = some i) : (s.slot p i).state = .free := by
  unfold State.freeSlot at h
  have hfound := List.find?_some h
  exact of_decide_eq_true hfound

theorem Ledger.finals_of_free (h : Ledger s) (hi : (s.slot p i).state = .free) : finalsOf (s.port p) i = [] := by
  rw [(h.sound p i).finals, Slot.recordFinals, hi]

theorem convert_ledger (h : Ledger s) (hn : (s.pendingList.map (·.channel)).Nodup) (hi : (s.slot p i).state = .free)
    (he : (s.channel c).enable = true) (st : Staging) :
    Ledger ((s.setSlot p i (convertSlot st c)).requestConversion p i) := by
  have hbut := (h.but (i := i) (p := p) (by rw [hi]; nofun)).setSlot (convertSlot st c)
  refine requestConversion_ledger hbut (by simpa using hn) ?_ ?_ ?_ <;> rw [State.slot_setSlot]
  · rw [finals_setSlot, h.finals_of_free hi]
    exact ⟨rfl, fun _ => ⟨nofun, rfl, rfl, rfl, rfl⟩⟩
  · rw [hasDeadline_setSlot, h.dues p i, Slot.running, hi]
    exact iff_of_false (fun hr => nomatch hr.2) nofun
  · rw [State.channel_setSlot]
    exact he

theorem watch_ledger (h : Ledger s) (hn : (s.pendingList.map (·.channel)).Nodup) (hi : (s.slot p i).state = .free)
    (he : (s.channel c).enable = true) (st : Staging) (x : Stamp) :
    Ledger (((s.setSlot p i (watchSlot st c x)).placeDeadline (.watchDue p i) x).requestConversion p i) := by
  have hbut := ((h.but (i := i) (p := p) (by rw [hi]; nofun)).setSlot (watchSlot st c x)).placeDue x
  refine requestConversion_ledger hbut (by simpa using hn) ?_ ?_ ?_ <;>
    rw [State.slot_placeDeadline, State.slot_setSlot]
  · rw [State.port_placeDeadline, finals_setSlot, h.finals_of_free hi]
    exact ⟨rfl, nofun⟩
  · rw [hasDeadline_placeDeadline]
    exact iff_of_true (.inl rfl) rfl
  · rw [State.channel_placeDeadline, State.channel_setSlot]
    exact he

/-! ## Dues (R29) -/

theorem Ledger.watch_of_due (h : Ledger s) (hd : .watchDue p i ∈ s.timebase.delivered) : (s.slot p i).kind = .watch :=
  ((h.dues p i).1 (hasDeadline_of_delivered hd)).1

theorem dueDormant_ledger (h : Ledger s) (hn : (s.pendingList.map (·.channel)).Nodup)
    (hd : .watchDue p i ∈ s.timebase.delivered) (hs : (s.slot p i).state = .dormant) (x : Stamp) :
    Ledger (((s.setSlot p i { s.slot p i with nextDue := x }).placeDeadline (.watchDue p i) x).requestConversion p i) := by
  have hk := h.watch_of_due hd
  have hr : (s.slot p i).running = true := by rw [Slot.running, hs]; rfl
  have hbut := ((h.but (i := i) (p := p) (by rw [hs]; nofun)).setSlot { s.slot p i with nextDue := x }).placeDue x
  refine requestConversion_ledger hbut (by simpa using hn) ?_ ?_ ?_ <;>
    rw [State.slot_placeDeadline, State.slot_setSlot]
  · rw [State.port_placeDeadline, finals_setSlot]
    exact ⟨((h.sound p i).live hr).finals, fun hc => nomatch hk.symm.trans hc⟩
  · rw [hasDeadline_placeDeadline]
    exact iff_of_true (.inl rfl) hk
  · rw [State.channel_placeDeadline, State.channel_setSlot]
    exact h.enabled p i hr

theorem dueWaiting_ledger (h : Ledger s) (hd : .watchDue p i ∈ s.timebase.delivered)
    (hs : (s.slot p i).state = .waiting) (x : Stamp) (m : Byte) :
    Ledger ((s.setSlot p i { s.slot p i with nextDue := x, missed := m }).placeDeadline (.watchDue p i) x) := by
  have hk := h.watch_of_due hd
  have hr : (s.slot p i).running = true := by rw [Slot.running, hs]; rfl
  refine h.change (p := p) (i := i) (y := { s.slot p i with nextDue := x, missed := m })
    (fun q k => by rw [State.slot_placeDeadline, State.slot_setSlot_eq])
    (fun q k _ => by rw [State.port_placeDeadline, finals_setSlot]) ?_ .rfl (fun _ => rfl) (fun q k hqk => ?_) ?_
    (fun _ => h.enabled p i hr) (by simp) (by simp) (by simp)
  · rw [State.port_placeDeadline, finals_setSlot]
    exact SlotLive.sound ⟨((h.sound p i).live hr).finals, fun hc => nomatch hk.symm.trans hc⟩ hr
  · rw [hasDeadline_placeDeadline, hasDeadline_setSlot]
    exact or_iff_right fun heq => hqk (by cases heq; exact ⟨rfl, rfl⟩)
  · rw [hasDeadline_placeDeadline]
    exact iff_of_true (.inl rfl) ⟨hk, hr⟩

/-! ## Acknowledgements (R31, R35) -/

theorem finalsOf_cons {x : PortState} {r : ResponseRecord} {rest : List ResponseRecord} (hq : x.queue = r :: rest) :
    finalsOf x k = if r.slot = k then r.final :: finalsOf { x with queue := rest } k
      else finalsOf { x with queue := rest } k := by
  rw [finalsOf, hq, List.filter_cons]
  by_cases h : r.slot = k <;> simp [h, finalsOf]

/-- A slot with a record has that one alone: a final one when it is FINISHED, a notice when its request runs. -/
theorem recordFinals_cons {b : Bool} {m : List Bool} (h : b :: m = y.recordFinals) :
    m = [] ∧ (b = true ∧ y.state = .finished ∨ b = false ∧ y.running = true) := by
  have hnotice {x : SlotState} (hs : y.state = x) (hr : y.running = true)
      (h : b :: m = if y.noticeQueued then [false] else []) :
      m = [] ∧ (b = true ∧ x = .finished ∨ b = false ∧ y.running = true) := by
    split at h
    · cases h
      exact ⟨rfl, .inr ⟨rfl, hr⟩⟩
    · cases h
  unfold Slot.recordFinals at h
  cases hs : y.state <;> simp only [hs] at h
  · cases h
  · exact hnotice hs (by rw [Slot.running, hs]; rfl) h
  · exact hnotice hs (by rw [Slot.running, hs]; rfl) h
  · cases h
    exact ⟨rfl, .inl ⟨rfl, rfl⟩⟩

theorem slot_setPort {x : PortState} (hx : x.slots = (s.port p).slots) : (s.setPort p x).slot q k = s.slot q k := by
  rw [State.slot, State.port_setPort_eq]
  split
  · next h => subst h; simp only [hx]; rfl
  · rfl

theorem acknowledge_ledger (h : Ledger s) {r : ResponseRecord} {rest : List ResponseRecord}
    (hq : (s.port p).queue = r :: rest) :
    Ledger (s.setPort p { s.port p with
      queue := rest, slots := (s.port p).slots.set r.slot (acknowledgedSlot r (s.slot p r.slot)) }) := by
  have hhead : finalsOf (s.port p) r.slot = r.final :: finalsOf { s.port p with queue := rest } r.slot := by
    rw [finalsOf_cons hq, if_pos rfl]
  have hsound := h.sound p r.slot
  obtain ⟨hempty, hcases⟩ := recordFinals_cons (hhead ▸ hsound.finals)
  have ht : s.setPort p { s.port p with
      queue := rest, slots := (s.port p).slots.set r.slot (acknowledgedSlot r (s.slot p r.slot)) } =
      (s.setPort p { s.port p with queue := rest }).setSlot p r.slot (acknowledgedSlot r (s.slot p r.slot)) := by
    simp only [State.setSlot, State.port_setPort, State.setPort_setPort]
  rw [ht]
  refine h.change (p := p) (i := r.slot) (y := acknowledgedSlot r (s.slot p r.slot))
    (fun q k => by rw [State.slot_setSlot_eq, slot_setPort (by rfl)]) (fun q k hqk => ?_) ?_ ?_ ?_ (fun q k _ => by simp) ?_ ?_
    (by simp) (by simp) (by simp)
  · rw [finals_setSlot, State.port_setPort_eq]
    split
    · next hp =>
      subst hp
      rw [finalsOf_cons hq, if_neg fun hk => hqk ⟨rfl, hk.symm⟩]
    · rfl
  · rw [finals_setSlot, State.port_setPort, hempty]
    rcases hcases with ⟨hf, -⟩ | ⟨hf, hr⟩
    · rw [acknowledgedSlot_final hf]
      exact ⟨rfl, fun _ => rfl, fun _ => ⟨nofun, rfl, rfl, rfl, rfl⟩⟩
    · rw [acknowledgedSlot_notice hf]
      refine SlotLive.sound ⟨rfl, fun hk => ?_⟩ hr
      obtain ⟨hs, -, hperiod, hnext, -⟩ := hsound.plain hk
      exact ⟨hs, rfl, hperiod, hnext, rfl⟩
  · rcases hcases with ⟨hf, hs⟩ | ⟨hf, -⟩
    · rw [acknowledgedSlot_final hf, hs]
      exact iff_of_false nofun nofun
    · rw [acknowledgedSlot_notice hf]
  · rcases hcases with ⟨hf, -⟩ | ⟨hf, -⟩
    · rw [acknowledgedSlot_final hf]
      nofun
    · rw [acknowledgedSlot_notice hf]
      exact fun _ => rfl
  · rw [hasDeadline_setSlot, hasDeadline_setPort, h.dues]
    rcases hcases with ⟨hf, hs⟩ | ⟨hf, -⟩
    · rw [acknowledgedSlot_final hf, Slot.running, hs]
      exact iff_of_false (fun hr => nomatch hr.2) (fun hr => nomatch hr.2)
    · rw [acknowledgedSlot_notice hf]
      rfl
  · rcases hcases with ⟨hf, -⟩ | ⟨hf, -⟩
    · rw [acknowledgedSlot_final hf]
      nofun
    · rw [acknowledgedSlot_notice hf]
      exact h.enabled p r.slot

/-! ## CANCEL (R33) -/

/-- The waiter sets after a removal. -/
theorem removeWaiters_work (h : Ledger s) (f : Waiter → Bool) :
    (∀ e ∈ (s.removeWaiters f).pendingList, e.waiters ≠ [] ∧ Work s e.channel e.waiters ∧ ∀ w ∈ e.waiters, w ∈ s.everyWaiter)
      ∧ ∀ r ∈ (s.removeWaiters f).inFlight, Work s r.channel r.waiters ∧ ∀ w ∈ r.waiters, w ∈ s.everyWaiter := by
  constructor
  · intro e he
    obtain ⟨e', he', hthin⟩ := List.mem_filterMap.1 he
    obtain ⟨hne, hwork⟩ := h.pending e' he'
    obtain ⟨hc, hne', hsub⟩ := thinnedEntry_some hthin hne
    exact ⟨hne', hc ▸ ⟨hwork.1, fun w hw => hwork.2 w (hsub hw)⟩, fun w hw => mem_everyWaiter_of_pending he' (hsub hw)⟩
  · intro r hr
    obtain ⟨r', hr', rfl⟩ := List.mem_map.1 hr
    have hwork := h.inFlight r' hr'
    have hsub {w : Waiter} (hw : w ∈ dropWaiters f r'.waiters) : w ∈ r'.waiters := (List.mem_filter.1 hw).1
    exact ⟨⟨hwork.1, fun w hw => hwork.2 w (hsub hw)⟩, fun w hw => mem_everyWaiter_of_inFlight hr' (hsub hw)⟩

theorem slot_removeWaiters (f : Waiter → Bool) : (s.removeWaiters f).slot q k = s.slot q k := by
  rw [State.slot, port_removeWaiters, State.slot]

theorem leftWaiters_ledgerBut (h : Ledger s) : LedgerBut (leftWaiters s p i) p i := by
  unfold leftWaiters
  split
  · obtain ⟨hpending, hflight⟩ := removeWaiters_work h fun w => decide (w = { port := p, slot := i })
    have hwork {c : Channel} {ws : List Waiter} (h' : Work s c ws) :
        Work (s.removeWaiters fun w => decide (w = { port := p, slot := i })) c ws :=
      h'.congr (fun w _ => by rw [slot_removeWaiters]) id
    refine ⟨fun q k _ => ?_, ?_, fun q k hqk => ?_, fun q k _ => ?_, fun q k _ => ?_,
      fun e he => ⟨(hpending e he).1, hwork (hpending e he).2.1⟩, fun r hr => hwork (hflight r hr).1⟩
    · rw [slot_removeWaiters, port_removeWaiters]
      exact h.sound q k
    · rw [everyWaiter_removeWaiters, List.mem_filter]
      simp
    · rw [everyWaiter_removeWaiters, List.count_filter, slot_removeWaiters]
      · exact h.waits q k
      · rw [decide_eq_false fun heq => hqk (by cases heq; exact ⟨rfl, rfl⟩)]
        rfl
    · rw [slot_removeWaiters]
      exact h.dues q k
    · rw [slot_removeWaiters]
      exact h.enabled q k
  · next hs => exact h.but hs

theorem cancel_ledger (h : Ledger s) (hs : (s.slot p i).state = .waiting ∨ (s.slot p i).state = .dormant) :
    Ledger ((leftWaiters s p i).endSlot p i .cancelled) := by
  have hr : (s.slot p i).running = true := by
    rcases hs with hs | hs <;> rw [Slot.running, hs] <;> rfl
  refine endSlot_ledger (leftWaiters_ledgerBut h) ?_ ?_ _ <;> rw [leftWaiters_slot]
  · rw [leftWaiters_port]
    exact (h.sound p i).live hr
  · rw [hasDeadline_congr (leftWaiters_timebase i), h.dues]
    exact And.left

end OneSlot

section Regrouped

variable {s t : State} {p q : Port} {i k : SlotNo} {c : Channel} {w : Waiter}

/-! ## Takes and discards (R50, R61) -/

/-- Waiter sets move as wholes between the Pending List and the conversions in flight. -/
theorem Ledger.regroup (h : Ledger s) (hports : ∀ q, t.port q = s.port q) (hperm : t.everyWaiter.Perm s.everyWaiter)
    (ht : t.timebase = s.timebase) (hc : t.channels = s.channels)
    (hpending : ∀ e ∈ t.pendingList, e.waiters ≠ [] ∧ Work s e.channel e.waiters)
    (hflight : ∀ r ∈ t.inFlight, Work s r.channel r.waiters) : Ledger t := by
  have hslot (q : Port) (k : SlotNo) : t.slot q k = s.slot q k := by rw [State.slot, hports, State.slot]
  have hchannel (c : Channel) : t.channel c = s.channel c := by rw [State.channel, hc, State.channel]
  have hwork {c : Channel} {ws : List Waiter} (h' : Work s c ws) : Work t c ws :=
    h'.congr (fun w _ => by rw [hslot]) (by rw [hchannel]; exact id)
  refine ⟨fun q k => ?_, fun q k => ?_, fun q k => ?_, fun q k => ?_, fun e he => ⟨(hpending e he).1, hwork (hpending e he).2⟩,
    fun r hr => hwork (hflight r hr)⟩
  · rw [hslot, hports]
    exact h.sound q k
  · rw [hslot, hperm.count_eq]
    exact h.waits q k
  · rw [hslot, hasDeadline_congr ht]
    exact h.dues q k
  · rw [hslot, hchannel]
    exact h.enabled q k

theorem eq_of_same_channel {l : List PendingEntry} (h : (l.map (·.channel)).Nodup) {d e : PendingEntry} (hd : d ∈ l)
    (he : e ∈ l) (hde : d.channel = e.channel) : d = e := by
  induction l with
  | nil => cases hd
  | cons x l ih =>
    rw [List.map_cons, List.nodup_cons] at h
    rcases List.mem_cons.1 hd with rfl | hdl
    · rcases List.mem_cons.1 he with rfl | hel
      · rfl
      · exact absurd (hde ▸ List.mem_map_of_mem hel) h.1
    · rcases List.mem_cons.1 he with rfl | hel
      · exact absurd (hde ▸ List.mem_map_of_mem hdl) h.1
      · exact ih h.2 hdl hel

theorem take_ledger (h : Ledger s) (hn : (s.pendingList.map (·.channel)).Nodup) {e : PendingEntry} (he : e ∈ s.pendingList)
    (x : Engine) : Ledger (s.startConversion x e) := by
  have hperm : s.pendingList.Perm (e :: s.pendingList.eraseP fun d => decide (d.channel = e.channel)) := by
    obtain ⟨d, l₁, l₂, -, hd, hl, herase⟩ := List.exists_of_eraseP (p := fun d => decide (d.channel = e.channel)) he
      (decide_eq_true rfl)
    have hde : d = e := eq_of_same_channel hn (hl ▸ by simp) he (of_decide_eq_true hd)
    rw [herase, hl, hde]
    exact List.perm_middle
  refine h.regroup (fun q => by simp) ?_ (by simp) (by simp) (fun d hd => ?_) fun r hr => ?_
  · have hwaiters := (hperm.flatMap_right fun e => e.waiters).append_right (s.inFlight.flatMap (·.waiters))
    refine List.Perm.trans ?_ hwaiters.symm
    simp only [State.everyWaiter, State.startConversion, takenRecord, List.flatMap_append, List.flatMap_cons,
      List.flatMap_nil, List.append_nil, List.append_assoc]
    rw [← List.append_assoc]
    exact List.perm_append_comm
  · exact h.pending d (List.mem_of_mem_eraseP hd)
  · rcases List.mem_append.1 hr with hr | hr
    · exact h.inFlight r hr
    · obtain rfl := List.mem_singleton.1 hr
      exact (h.pending e he).2

theorem perm_eraseP_of_find {α : Type} {f : α → Bool} {a : α} {l : List α} (h : l.find? f = some a) :
    l.Perm (a :: l.eraseP f) := by
  induction l with
  | nil => cases h
  | cons x l ih =>
    cases hf : f x with
    | true =>
      rw [List.find?_cons_of_pos hf] at h
      cases h
      rw [List.eraseP_cons_of_pos hf]
    | false =>
      rw [List.find?_cons_of_neg (by rw [hf]; nofun)] at h
      rw [List.eraseP_cons_of_neg (by rw [hf]; nofun)]
      exact ((ih h).cons x).trans (.swap a x _)

theorem Ledger.nodup (h : Ledger s) : s.everyWaiter.Nodup := by
  refine List.nodup_iff_count.2 fun w => ?_
  have hcount := h.waits w.port w.slot
  exact Nat.le_trans (Nat.le_of_eq hcount) (by split <;> decide)

theorem joined_perm {l : List PendingEntry} {ws : List Waiter} (h : (waitersIn l ++ ws).Nodup) :
    (l.foldr (fun e vs => unionWaiters e.waiters vs) ws).Perm (waitersIn l ++ ws) := by
  induction l with
  | nil => exact .refl _
  | cons e l ih =>
    rw [waitersIn, List.flatMap_cons, List.append_assoc] at h ⊢
    have hrest := ih (List.nodup_append.1 h).2.1
    have hall := hrest.append_left e.waiters
    exact (unionWaiters_perm (hall.nodup_iff.2 h)).trans hall

theorem requeue_perm {l : List PendingEntry} {r : ConversionRecord} (h : (waitersIn l ++ r.waiters).Nodup) :
    (waitersIn (requeue r l)).Perm (waitersIn l ++ r.waiters) := by
  unfold requeue
  split
  · next he => rw [List.isEmpty_iff.1 he, List.append_nil]
  · have hsplit : (waitersIn (l.filter fun e => decide (e.channel = r.channel)) ++
        waitersIn (l.filter fun e => decide (e.channel ≠ r.channel))).Perm (waitersIn l) := by
      have hperm := (List.filter_append_perm (fun e : PendingEntry => decide (e.channel = r.channel)) l).flatMap_right
        fun e => e.waiters
      simpa only [List.flatMap_append, ← decide_not] using hperm
    have hjoined := joined_perm (l := l.filter fun e => decide (e.channel = r.channel)) (ws := r.waiters)
      (((List.sublist_append_left _ _).append_right _).nodup ((hsplit.append_right r.waiters).nodup_iff.2 h))
    dsimp only
    rw [waitersIn, List.flatMap_cons]
    refine (hjoined.append_right _).trans (List.Perm.trans ?_ (hsplit.append_right r.waiters))
    rw [List.append_assoc, List.append_assoc]
    exact List.perm_append_comm.append_left _

theorem mem_joined {l : List PendingEntry} {ws : List Waiter} :
    w ∈ l.foldr (fun e vs => unionWaiters e.waiters vs) ws ↔ w ∈ ws ∨ ∃ e ∈ l, w ∈ e.waiters := by
  induction l with
  | nil => simp
  | cons e l ih =>
    rw [List.foldr_cons, mem_unionWaiters, ih]
    simp only [List.mem_cons, or_and_right, exists_or, exists_eq_left]
    exact or_left_comm

theorem requeue_work (h : Ledger s) {r : ConversionRecord} (hr : r ∈ s.inFlight) :
    ∀ e ∈ requeue r s.pendingList, e.waiters ≠ [] ∧ Work s e.channel e.waiters := by
  unfold requeue
  split
  · exact h.pending
  · next hne =>
    intro e he
    rcases List.mem_cons.1 he with rfl | he
    · refine ⟨?_, (h.inFlight r hr).1, fun w hw => ?_⟩
      · obtain ⟨v, hv⟩ := List.exists_mem_of_ne_nil _ fun hnil => hne (List.isEmpty_iff.2 hnil)
        exact List.ne_nil_of_mem (mem_joined.2 (.inl hv))
      · rcases mem_joined.1 hw with hw | ⟨e, he, hw⟩
        · exact (h.inFlight r hr).2 w hw
        · obtain ⟨he, hc⟩ := List.mem_filter.1 he
          exact ((h.pending e he).2.2 w hw).trans (of_decide_eq_true hc)
    · exact h.pending e (List.mem_filter.1 he).1

theorem discard_ledger (h : Ledger s) (c : Channel) : Ledger (s.discard c) := by
  unfold State.discard
  split
  · exact h
  · next r hr =>
    have hflight := (perm_eraseP_of_find hr).flatMap_right fun r : ConversionRecord => r.waiters
    have hall : s.everyWaiter.Perm ((waitersIn s.pendingList ++ r.waiters) ++
        (s.inFlight.eraseP fun x => decide (x.channel = c)).flatMap (·.waiters)) := by
      rw [List.append_assoc]
      exact hflight.append_left _
    have hn := (List.nodup_append.1 (hall.nodup_iff.1 h.nodup)).1
    refine h.regroup (fun q => by cases q <;> rfl) (List.Perm.trans ?_ hall.symm) rfl rfl
      (requeue_work h (List.mem_of_find?_eq_some hr)) fun x hx => h.inFlight x (List.mem_of_mem_eraseP hx)
    exact (requeue_perm hn).append_right _

end Regrouped

section Many

variable {s t : State} {p q : Port} {i k : SlotNo} {c : Channel} {w : Waiter} {l : List Waiter}

/-! ## Many slots served, or ended (R53, R57) -/

/-- An operation on one slot at a time, done for each of a list, reaches each slot of the list once and no other. -/
theorem foldl_local {β : Type} {op : State → Waiter → State} {g : β → β} {read : State → Waiter → β}
    (hop : ∀ s w v, read (op s w) v = if v = w then g (read s v) else read s v) (hl : l.Nodup) (v : Waiter) :
    read (l.foldl op s) v = if v ∈ l then g (read s v) else read s v := by
  induction l generalizing s with
  | nil => rfl
  | cons w l ih =>
    obtain ⟨hw, hl⟩ := List.nodup_cons.1 hl
    rw [List.foldl_cons, ih hl, hop]
    by_cases hv : v = w
    · subst hv
      simp [hw]
    · simp [hv]

/-- A slot with the finals of its records. -/
def account (s : State) (w : Waiter) : Slot × List Bool := (s.slot w.port w.slot, finalsOf (s.port w.port) w.slot)

theorem waiter_eq_iff (v w : Waiter) : v.port = w.port ∧ v.slot = w.slot ↔ v = w :=
  ⟨fun ⟨hp, hs⟩ => by cases v; cases w; cases hp; cases hs; rfl, fun h => h ▸ ⟨rfl, rfl⟩⟩

/-- A slot with its records after a delivery. -/
def servedAccount (a : Slot × List Bool) : Slot × List Bool := (servedSlot a.1, servedFinals a.1 a.2)

/-- A slot with its records after its channel has been turned OFF. -/
def endedAccount (c : Channel) (a : Slot × List Bool) : Slot × List Bool :=
  if runsOn c a.1 = true then ({ a.1 with state := .finished }, endedFinals a.1 a.2) else a

theorem account_deliver (s : State) (w v : Waiter) (o : Source) (part : ResultPart) :
    account (s.deliver w.port w.slot o part) v = if v = w then servedAccount (account s v) else account s v := by
  simp only [account, slot_deliver, finals_deliver, waiter_eq_iff]
  split
  · next h => rw [h, servedAccount]
  · rfl

theorem account_withdrawSlot (s : State) (w v : Waiter) :
    account (s.withdrawSlot c w) v = if v = w then endedAccount c (account s v) else account s v := by
  have hended (h : runsOn c (s.slot w.port w.slot) = true) :
      account (s.endSlot w.port w.slot .channelOff) v = if v = w then endedAccount c (account s v) else account s v := by
    simp only [account, slot_endSlot, finals_endSlot, waiter_eq_iff]
    split
    · next hv => rw [hv, endedAccount, if_pos h]
    · rfl
  rw [withdrawSlot_eq]
  split
  · next h => exact hended h
  · next h =>
    by_cases hv : v = w
    · rw [if_pos hv, hv]
      exact (if_neg h).symm
    · rw [if_neg hv]

theorem mem_allWaiters (w : Waiter) : w ∈ allWaiters := by
  obtain ⟨p, i⟩ := w
  cases p <;> simp [allWaiters]

theorem allWaiters_nodup : allWaiters.Nodup := by
  have hport (p : Port) : ((List.finRange 12).map fun i : SlotNo => ({ port := p, slot := i } : Waiter)).Nodup :=
    List.Pairwise.map _ (fun i j hij hw => hij (congrArg Waiter.slot hw)) (List.nodup_finRange 12)
  refine List.nodup_append.2 ⟨hport .a, hport .b, fun w ha v hb hwv => ?_⟩
  obtain ⟨i, -, rfl⟩ := List.mem_map.1 ha
  obtain ⟨j, -, rfl⟩ := List.mem_map.1 hb
  cases hwv

theorem account_deliverAll (ws : List Waiter) (part : ResultPart) (v : Waiter) :
    account (s.deliverAll ws part) v = if v ∈ ws then servedAccount (account s v) else account s v := by
  rw [State.deliverAll, foldl_local (fun s w v => account_deliver s w v .conversion part) (allWaiters_nodup.filter _)]
  exact ite_congr (by simp [mem_allWaiters]) (fun _ => rfl) fun _ => rfl

theorem account_withdraw (v : Waiter) : account (s.withdraw c) v = endedAccount c (account s v) := by
  rw [State.withdraw, foldl_local account_withdrawSlot allWaiters_nodup, if_pos (mem_allWaiters v)]
  rfl

/-! ## Completion (R52) -/

theorem finish_ledger (h : Ledger s) {r : ConversionRecord}
    (hr : s.inFlight.find? (fun r => decide (r.channel = c)) = some r) (o : ConversionOutcome) :
    Ledger (finished s c r o) := by
  have hmem := List.mem_of_find?_eq_some hr
  have haccount (v : Waiter) : account (finished s c r o) v = if v ∈ r.waiters then servedAccount (account s v) else account s v :=
    (account_deliverAll _ _ v).trans (by cases v.port <;> rfl)
  have hslot (q : Port) (k : SlotNo) : (finished s c r o).slot q k =
      if ⟨q, k⟩ ∈ r.waiters then servedSlot (s.slot q k) else s.slot q k := by
    have hfst := congrArg Prod.fst (haccount ⟨q, k⟩)
    rwa [apply_ite Prod.fst] at hfst
  have hkept (q : Port) (k : SlotNo) : ((finished s c r o).slot q k).channel = (s.slot q k).channel := by
    rw [hslot]
    split
    · exact (servedSlot_kept _).2.1
    · rfl
  have hwait {q : Port} {k : SlotNo} (hw : ⟨q, k⟩ ∈ r.waiters) : (s.slot q k).running = true := by
    have hs := h.waiting_of_mem (mem_everyWaiter_of_inFlight hmem hw)
    rw [Slot.running, hs]
    rfl
  have hchannel (d : Channel) : (finished s c r o).channel d = s.channel d := by
    simp [finished, State.channel]
  have hflight : (finished s c r o).inFlight = s.inFlight.eraseP fun x => decide (x.channel = c) := by simp [finished]
  have hpending : (finished s c r o).pendingList = s.pendingList := by simp [finished]
  have hperm : s.everyWaiter.Perm (r.waiters ++ (finished s c r o).everyWaiter) := by
    have hfound := (perm_eraseP_of_find hr).flatMap_right fun r : ConversionRecord => r.waiters
    rw [State.everyWaiter, State.everyWaiter, hflight, hpending]
    refine (hfound.append_left _).trans ?_
    rw [List.flatMap_cons, ← List.append_assoc, ← List.append_assoc]
    exact List.perm_append_comm.append_right _
  have hcount (v : Waiter) := (hperm.count_eq v).trans List.count_append
  have hwork {d : Channel} {ws : List Waiter} (h' : Work s d ws) : Work (finished s c r o) d ws :=
    h'.congr (fun w _ => hkept _ _) (by rw [hchannel]; exact id)
  refine ⟨fun q k => ?_, fun q k => ?_, fun q k => ?_, fun q k hrun => ?_, fun e he => ?_, fun x hx => ?_⟩
  · have hboth := haccount ⟨q, k⟩
    have hsound := h.sound q k
    split at hboth
    · next hw =>
      rw [show (finished s c r o).slot q k = _ from congrArg Prod.fst hboth,
        show finalsOf ((finished s c r o).port q) k = _ from congrArg Prod.snd hboth]
      exact (hsound.live (hwait hw)).served
    · rw [show (finished s c r o).slot q k = _ from congrArg Prod.fst hboth,
        show finalsOf ((finished s c r o).port q) k = _ from congrArg Prod.snd hboth]
      exact hsound
  · have hq := hcount ⟨q, k⟩
    rw [h.waits] at hq
    rw [hslot]
    split
    · next hw =>
      have hone := List.count_pos_iff.2 hw
      rw [if_neg (servedSlot_kept _).2.2]
      split at hq <;> omega
    · next hw =>
      rw [List.count_eq_zero.2 hw, Nat.zero_add] at hq
      exact hq.symm
  · rw [hasDeadline_finished, h.dues, hslot]
    split
    · next hw => rw [(servedSlot_kept _).1, running_servedSlot, and_self, hwait hw, and_iff_left rfl]
    · rfl
  · rw [hkept, hchannel]
    rw [hslot] at hrun
    split at hrun
    · next hw => exact h.enabled q k (hwait hw)
    · exact h.enabled q k hrun
  · rw [hpending] at he
    exact ⟨(h.pending e he).1, hwork (h.pending e he).2⟩
  · rw [hflight] at hx
    exact hwork (h.inFlight x (List.mem_of_mem_eraseP hx))

/-! ## A channel turned OFF (R57) -/

theorem runsOn_iff {y : Slot} : runsOn c y = true ↔ y.channel = c ∧ y.running = true := by
  rw [runsOn, Bool.and_eq_true, decide_eq_true_eq]

theorem endedAccount_channel (a : Slot × List Bool) : (endedAccount c a).1.channel = a.1.channel := by
  unfold endedAccount
  split <;> rfl

theorem account_sound {a : Slot × List Bool} (h : SlotSound a.1 a.2) :
    SlotSound (endedAccount c a).1 (endedAccount c a).2 := by
  unfold endedAccount
  split
  · next hr => exact (h.live (runsOn_iff.1 hr).2).ended
  · exact h

/-- The waiters that stand at other channels than the one turned OFF are still counted. -/
theorem count_filter_channel {l : List PendingEntry} (hw : ∀ e ∈ l, w ∈ e.waiters → e.channel ≠ c) :
    (waitersIn (l.filter fun e => decide (e.channel ≠ c))).count w = (waitersIn l).count w := by
  induction l with
  | nil => rfl
  | cons e l ih =>
    have hrest := ih fun d hd => hw d (List.mem_cons_of_mem e hd)
    by_cases he : e.channel = c
    · have hnot : e.waiters.count w = 0 := List.count_eq_zero.2 fun hm => hw e List.mem_cons_self hm he
      rw [List.filter_cons_of_neg (by simpa using he), hrest, waitersIn, waitersIn, List.flatMap_cons, List.count_append,
        hnot, Nat.zero_add]
    · rw [List.filter_cons_of_pos (by simpa using he), waitersIn, waitersIn, List.flatMap_cons, List.flatMap_cons,
        List.count_append, List.count_append, hrest]

theorem withdraw_ledger (h : Ledger s) (hfree : ∀ r ∈ s.inFlight, r.channel ≠ c)
    (hkeep : ∀ d, d ≠ c → t.channel d = s.channel d) (ht : t = (s.setChannel c (t.channel c)).withdraw c) : Ledger t := by
  have haccount (v : Waiter) : account t v = endedAccount c (account s v) := by
    rw [ht, account_withdraw]
    rfl
  have hslot (q : Port) (k : SlotNo) : t.slot q k = (endedAccount c (account s ⟨q, k⟩)).1 := congrArg Prod.fst (haccount ⟨q, k⟩)
  have hended {q : Port} {k : SlotNo} (hr : runsOn c (s.slot q k) = true) :
      t.slot q k = { s.slot q k with state := .finished } := (hslot q k).trans (congrArg Prod.fst (if_pos hr))
  have hsame {q : Port} {k : SlotNo} (hr : ¬ runsOn c (s.slot q k) = true) : t.slot q k = s.slot q k :=
    (hslot q k).trans (congrArg Prod.fst (if_neg hr))
  have hchannel (q : Port) (k : SlotNo) : (t.slot q k).channel = (s.slot q k).channel := by
    rw [hslot]
    exact endedAccount_channel _
  have hpending : t.pendingList = s.pendingList.filter fun e => decide (e.channel ≠ c) := by
    rw [ht, withdraw_eq]
    rfl
  have hflight : t.inFlight = s.inFlight := by
    rw [ht]
    simp
  have hwork {d : Channel} {ws : List Waiter} (hd : d ≠ c) (h' : Work s d ws) : Work t d ws :=
    h'.congr (fun w _ => hchannel _ _) (by rw [hkeep d hd]; exact id)
  have hpendingWork (e : PendingEntry) (he : e ∈ t.pendingList) : e.channel ≠ c ∧ e.waiters ≠ [] ∧ Work s e.channel e.waiters := by
    rw [hpending] at he
    exact ⟨of_decide_eq_true (List.mem_filter.1 he).2, h.pending e (List.mem_filter.1 he).1⟩
  have hstands (v : Waiter) (hv : v ∈ t.everyWaiter) : (s.slot v.port v.slot).channel ≠ c := by
    rcases List.mem_append.1 hv with hv | hv
    · obtain ⟨e, he, hv⟩ := List.mem_flatMap.1 hv
      obtain ⟨hc, -, hwork⟩ := hpendingWork e he
      rw [hwork.2 v hv]
      exact hc
    · obtain ⟨r, hr, hv⟩ := List.mem_flatMap.1 hv
      rw [hflight] at hr
      rw [(h.inFlight r hr).2 v hv]
      exact hfree r hr
  have hdues (q : Port) (k : SlotNo) : t.HasDeadline (.watchDue q k) ↔ s.HasDeadline (.watchDue q k) ∧
      (runsOn c (s.slot q k) && decide ((s.slot q k).kind = .watch)) = false := by
    rw [hasDeadline_dropAll (t := t) (by rw [ht]; exact withdraw_timebase c)]
    simp only [duesOn, State.slot_setChannel]
    rfl
  refine ⟨fun q k => ?_, fun q k => ?_, fun q k => ?_, fun q k hrun => ?_, fun e he => ?_, fun r hr => ?_⟩
  · have hsound := account_sound (c := c) (a := account s ⟨q, k⟩) (h.sound q k)
    rwa [← haccount] at hsound
  · by_cases hr : runsOn c (s.slot q k) = true
    · rw [hended hr, if_neg nofun, List.count_eq_zero]
      exact fun hv => hstands _ hv (runsOn_iff.1 hr).1
    · rw [hsame hr, ← h.waits q k, State.everyWaiter, State.everyWaiter, List.count_append, List.count_append, hflight, hpending]
      refine congrArg (· + _) (count_filter_channel fun e he hw hc => hr (runsOn_iff.2 ⟨?_, ?_⟩))
      · exact ((h.pending e he).2.2 _ hw).trans hc
      · rw [Slot.running, h.waiting_of_mem (mem_everyWaiter_of_pending he hw)]
        rfl
  · rw [hdues, h.dues]
    by_cases hr : runsOn c (s.slot q k) = true
    · rw [hended hr, hr]
      refine iff_of_false (fun hd => ?_) fun hd => nomatch hd.2
      simp [hd.1.1] at hd
    · rw [hsame hr, Bool.eq_false_iff.2 hr, Bool.false_and, and_iff_left rfl]
  · by_cases hr : runsOn c (s.slot q k) = true
    · rw [hended hr] at hrun
      cases hrun
    · rw [hchannel, hkeep _ fun hc => hr (runsOn_iff.2 ⟨hc, by rwa [hsame hr] at hrun⟩)]
      rw [hsame hr] at hrun
      exact h.enabled q k hrun
  · obtain ⟨hc, hne, hwork'⟩ := hpendingWork e he
    exact ⟨hne, hwork hc hwork'⟩
  · rw [hflight] at hr
    exact hwork (hfree r hr) (h.inFlight r hr)

/-! ## A port reset (R160) -/

theorem portCleared_ledger (h : Ledger s) (pin : Level) : Ledger (portCleared s p pin) := by
  obtain ⟨hpending, hflight⟩ := removeWaiters_work h fun w => decide (w.port = p)
  have hother (q : Port) (hq : q ≠ p) : (portCleared s p pin).port q = s.port q := by
    rw [portCleared, State.port_setPort_of_ne _ _ _ _ hq]
    cases q <;> rfl
  have hreset : (portCleared s p pin).port p = PortState.reset pin := State.port_setPort _ _ _
  have hwaiters : (portCleared s p pin).everyWaiter = s.everyWaiter.filter fun w => !decide (w.port = p) := by
    rw [← everyWaiter_removeWaiters]
    simp [State.everyWaiter, portCleared]
  have hpendingList : (portCleared s p pin).pendingList = (s.removeWaiters fun w => decide (w.port = p)).pendingList := by
    simp [portCleared]
  have hinFlight : (portCleared s p pin).inFlight = (s.removeWaiters fun w => decide (w.port = p)).inFlight := by
    simp [portCleared]
  have hslot {q : Port} (hq : q ≠ p) (k : SlotNo) : (portCleared s p pin).slot q k = s.slot q k := by
    rw [State.slot, hother q hq, State.slot]
  have hslotreset (k : SlotNo) : (portCleared s p pin).slot p k = freeSlotValues := by
    simp only [State.slot, hreset]
    simp [PortState.reset, free_eq]
  have hgone (k : SlotNo) : ⟨p, k⟩ ∉ (portCleared s p pin).everyWaiter := by
    rw [hwaiters, List.mem_filter]
    simp
  have hport {v : Waiter} (hv : v ∈ (portCleared s p pin).everyWaiter) : v.port ≠ p := by
    rw [hwaiters, List.mem_filter] at hv
    simpa using hv.2
  have hon (c : Channel) : ((portCleared s p pin).channel c).enable = (s.channel c).enable := by
    rw [channel_portCleared, (freedClaim_fields _).2]
  have hwork {c : Channel} {ws : List Waiter} (hm : ∀ w ∈ ws, w ∈ (portCleared s p pin).everyWaiter) (h' : Work s c ws) :
      Work (portCleared s p pin) c ws :=
    h'.congr (fun w hw => by rw [hslot (hport (hm w hw))]) (by rw [hon]; exact id)
  refine ⟨fun q k => ?_, fun q k => ?_, fun q k => ?_, fun q k hrun => ?_, fun e he => ?_, fun r hr => ?_⟩
  · by_cases hq : q = p
    · subst hq
      have hsound := slotSound_reset (i := k) pin
      simp only [State.slot, hreset]
      exact hsound
    · rw [hslot hq, hother q hq]
      exact h.sound q k
  · by_cases hq : q = p
    · subst hq
      rw [hslotreset, List.count_eq_zero.2 (hgone k)]
      rfl
    · rw [hslot hq, ← h.waits q k, hwaiters, List.count_filter (by simpa using hq)]
  · rw [hasDeadline_dropAll (portCleared_timebase pin)]
    by_cases hq : q = p
    · subst hq
      rw [hslotreset]
      exact iff_of_false (fun hd => by simp [State.ownsDeadline] at hd) fun hd => nomatch hd.2
    · rw [hslot hq, h.dues, State.ownsDeadline, and_iff_left (decide_eq_false hq)]
  · rw [hon]
    by_cases hq : q = p
    · subst hq
      rw [hslotreset] at hrun
      cases hrun
    · rw [hslot hq] at hrun ⊢
      exact h.enabled q k hrun
  · have hm (w : Waiter) (hw : w ∈ e.waiters) := mem_everyWaiter_of_pending he hw
    rw [hpendingList] at he
    exact ⟨(hpending e he).1, hwork hm (hpending e he).2.1⟩
  · have hm (w : Waiter) (hw : w ∈ r.waiters) := mem_everyWaiter_of_inFlight hr hw
    rw [hinFlight] at hr
    exact hwork hm (hflight r hr).1

end Many

end Sys2Proof.Invariants

/-! The ledger of requests under every operation on the shared tables, and with it every step. -/

namespace Sys2Proof.Invariants

open Sys2Proof.Machine Sys2Proof.Statement Sys2Proof.Claims Sys2Proof.Requests Sys2Proof.Responses

section Kept

variable {s t : State} {p q : Port} {i k : SlotNo} {c : Channel}

/-- What leaves ports, waiter sets and due deadlines, and turns no channel OFF. -/
theorem Ledger.congr_ports (h : Ledger s) (hports : ∀ q, (t.port q).slots = (s.port q).slots ∧ (t.port q).queue = (s.port q).queue)
    (hp : t.pendingList = s.pendingList) (hf : t.inFlight = s.inFlight)
    (hd : ∀ q k, t.HasDeadline (.watchDue q k) ↔ s.HasDeadline (.watchDue q k))
    (hon : ∀ c, (s.channel c).enable = true → (t.channel c).enable = true) : Ledger t :=
  h.congr hports hp (by rw [hf]) hd hon

theorem holdings_setPort {x : PortState} (hs : x.slots = (s.port p).slots) (hq : x.queue = (s.port p).queue) (q : Port) :
    ((s.setPort p x).port q).slots = (s.port q).slots ∧ ((s.setPort p x).port q).queue = (s.port q).queue := by
  rw [State.port_setPort_eq]
  split
  · next h => subst h; exact ⟨hs, hq⟩
  · exact ⟨rfl, rfl⟩

theorem setPort_ledger (h : Ledger s) {x : PortState} (hs : x.slots = (s.port p).slots) (hq : x.queue = (s.port p).queue) :
    Ledger (s.setPort p x) :=
  h.congr_ports (holdings_setPort hs hq) (by simp) (by simp) (fun q k => by simp) (fun c => by simp)

theorem internal_ledger (h : Ledger s) (hi : Internal s t) : Ledger t := by
  obtain ⟨-, -, hc, -, hp, -, -, -⟩ := hi.frame
  exact h.congr (fun q => by rw [hi.port q]; exact ⟨rfl, rfl⟩) hp
    (hi.inFlight_map (fun r => (r.channel, r.waiters)) fun _ _ => rfl) (fun q k => hi.hasDeadline rfl)
    (fun c => by simp only [State.channel, hc]; exact id)

/-- One channel record changed that is not turned OFF. -/
theorem setChannel_ledger (h : Ledger s) {x : ChannelRecord} (hx : (s.channel c).enable = true → x.enable = true) :
    Ledger (s.setChannel c x) := by
  refine h.congr_ports (fun q => by simp) (by simp) (by simp) (fun q k => by simp) fun d => ?_
  rw [State.channel_setChannel_eq]
  split
  · next hd => subst hd; exact hx
  · exact id

theorem placeDeadline_ledger (h : Ledger s) {j : DeadlineItem} (hj : ∀ q k, j ≠ .watchDue q k) (x : Stamp) :
    Ledger (s.placeDeadline j x) :=
  h.congr_ports (fun q => by simp) rfl rfl
    (fun q k => by rw [hasDeadline_placeDeadline]; exact or_iff_right fun heq => hj q k heq.symm) fun c => id

theorem dropDeadline_ledger (h : Ledger s) {j : DeadlineItem} (hj : ∀ q k, j ≠ .watchDue q k) :
    Ledger (s.dropDeadline j) :=
  h.congr_ports (fun q => by simp) rfl rfl
    (fun q k => by rw [hasDeadline_dropDeadline]; exact and_iff_left fun heq => hj q k heq.symm) fun c => id

theorem resetDevice_ledger (cause : ResetCause) : Ledger (s.resetDevice cause) := by
  have hslot (q : Port) (k : SlotNo) : (s.resetDevice cause).slot q k = freeSlotValues := by
    simp only [State.slot, resetDevice_port]
    simp [PortState.reset, free_eq]
  refine ⟨fun q k => ?_, fun q k => ?_, fun q k => ?_, fun q k hrun => ?_, nofun, nofun⟩
  · have hsound := slotSound_reset (i := k) (s.port q).rstN
    simp only [State.slot, resetDevice_port]
    exact hsound
  · rw [hslot]
    rfl
  · rw [hslot]
    exact iff_of_false (hasDeadline_resetDevice cause) fun hd => nomatch hd.2
  · rw [hslot] at hrun
    cases hrun

theorem SharedEffect.keeps_ledger (h : SharedEffect s t) (hr : s.ReservationsAgree) (hs : Ledger s) : Ledger t := by
  obtain ⟨hn, -, hmarks, -⟩ := hr
  cases h with
  | internal h => exact internal_ledger hs h
  | queue | pins | clock => exact hs.congr_ports (fun _ => ⟨rfl, rfl⟩) rfl rfl (fun _ _ => .rfl) fun _ => id
  | registers p x h => exact setPort_ledger hs h.slots h.queue
  | convert p i c hi he => exact convert_ledger hs hn (freeSlot_state hi) he _
  | watch p i c hi he => exact watch_ledger hs hn (freeSlot_state hi) he _ _
  | cancel p i h => exact cancel_ledger hs h
  | claim p c d => exact placeDeadline_ledger (j := .claim c) (setChannel_ledger hs (by exact id)) nofun _
  | endClaim c => exact dropDeadline_ledger (j := .claim c) (setChannel_ledger hs (by exact id)) nofun
  | configureOn p c f hf ha => exact setChannel_ledger hs fun _ => rfl
  | configureOff c h =>
    have hfree (r : ConversionRecord) (hr : r ∈ s.inFlight) : r.channel ≠ c := fun hc => by
      rw [(hmarks c).2 (hc ▸ List.mem_map_of_mem hr)] at h
      cases h
    have hchannel (d : Channel) : ((s.setChannel c (switchedOff (s.channel c))).withdraw c).channel d =
        (s.setChannel c (switchedOff (s.channel c))).channel d := by simp [State.channel]
    refine withdraw_ledger hs hfree (fun d hd => ?_) ?_
    · rw [hchannel, State.channel_setChannel_eq, if_neg hd]
    · rw [hchannel, State.channel_setChannel]
  | openWindow p x => exact placeDeadline_ledger (j := .quietEnd p) (setPort_ledger hs (by rfl) (by rfl)) nofun _
  | closeWindow p => exact dropDeadline_ledger (j := .quietEnd p) (setPort_ledger hs (by rfl) (by rfl)) nofun
  | discard c => exact discard_ledger hs c
  | acknowledge p r rest hq => exact acknowledge_ledger hs hq
  | clearPort p pin => exact portCleared_ledger hs pin
  | resetDevice cause => exact resetDevice_ledger cause
  | dueDormant p i hd h => exact dueDormant_ledger hs hn hd h _
  | dueWaiting p i hd h => exact dueWaiting_ledger hs hd h _ _
  | take e x h hroom => exact take_ledger hs hn (takeable_spec h).1 x
  | finish c r o h ho => exact finish_ledger hs h o
  | advance => exact hs.congr_ports (fun _ => ⟨rfl, rfl⟩) rfl rfl (fun _ _ => hasDeadline_advance) fun _ => id

/-- Settles O60: with the reservations in agreement, every operation on the shared tables keeps the ledger. -/
theorem stepKeepsRequestsInAgreement : Obligations.StepKeepsRequestsInAgreement := by
  intro s t hres _ _ hreq h
  have hkept := step_keeps_shared (I := fun s => s.ReservationsAgree ∧ Ledger s)
    (fun he ⟨hr, hl⟩ => ⟨(reservationsAgree_iff _).2 (he.keeps_agree ((reservationsAgree_iff _).1 hr)), he.keeps_ledger hr hl⟩) h
    ⟨hres, requestsAgree_iff.1 hreq⟩
  exact requestsAgree_iff.2 hkept.2

end Kept

end Sys2Proof.Invariants

/-! The machine and its queue, the state at reset, cycles that do not open, releases of the pins and the end of start-up,
and the first two checks of a commit. -/

namespace Sys2Proof.Cycles

open Sys2Proof.Machine Sys2Proof.Statement Sys2Proof.Claims Sys2Proof.Requests Sys2Proof.Invariants

section Queue

/-- Settles O1. -/
theorem stepRunsTheFrontCommand : Obligations.StepRunsTheFrontCommand := by
  refine ⟨fun c s => rfl, fun s h => ?_⟩
  unfold step
  rw [h]

/-- Settles O2: each command's meaning is total, and every operation leaves the queue as it was. -/
theorem everyCommandAnswersNext : Obligations.EveryCommandAnswersNext := by
  intro i s
  cases i
  case convert | watch | cancel | claim | release | configure | quiet | commitBadKind | acknowledgement | stagingWrite =>
    exact ⟨_, rfl, (State.dataWrite_frame s _ _).1⟩
  case controlWrite | resetAction => exact ⟨_, rfl, (State.controlWrite_frame s _ _ _).1⟩
  case snapshot | eventRecordRead => exact ⟨_, rfl, (State.readCycle_frame s _ _ _).1⟩
  case portReset => exact ⟨_, rfl, (State.resetPort_frame s _ _).1⟩
  case deviceReset => exact ⟨_, rfl, rfl⟩
  all_goals exact ⟨_, rfl, by simp⟩

theorem reservationsAgree_reset : State.reset.ReservationsAgree := by
  refine ⟨List.nodup_nil, List.nodup_nil, fun c => ?_, nofun, Nat.zero_le _, Nat.zero_le _⟩
  simp [State.reset, State.deviceReset, State.result, ResultEntry.reset]

theorem heldDeadlinesAgree_reset : State.reset.HeldDeadlinesAgree := by
  have hnone (i : DeadlineItem) : ¬ State.reset.HasDeadline i := hasDeadline_resetDevice (s := State.reset) (.powerOn .low)
  refine ⟨fun c => iff_of_false (hnone _) (Classical.not_not.2 ?_), fun p => iff_of_false (hnone _) (Classical.not_not.2 ?_)⟩
  · simp [State.reset, State.deviceReset, State.channel, ChannelRecord.reset]
  · cases p <;> rfl

/-- Settles O53: a device reset establishes each of the relations that the steps keep. -/
theorem resetStateIsSound : Obligations.ResetStateIsSound := by
  have hasleep : Asleep State.reset := asleep_resetDevice (s := State.reset) (.powerOn .low)
  have hbus : State.reset.BusCoherent ∧ State.reset.RemoteCoherent := coherent_iff.2 ⟨hasleep.coherent, fun _ => rfl⟩
  exact ⟨reservationsAgree_reset, channelsLegal_reset (s := State.reset) (.powerOn .low),
    converterObeysQuiet_iff.2 ⟨obeys_reset, Nat.zero_le _⟩, List.nodup_nil, hbus.1, hasleep.nothingBeforeRunning,
    requestsAgree_iff.2 (resetDevice_ledger (s := State.reset) (.powerOn .low)), heldDeadlinesAgree_reset, hbus.2⟩

end Queue

section Opening

variable {s : State} {p : Port} {selected : Bool}

theorem opens_eq_false (h : selected = false ∨ ¬ Open s p) : s.opens p selected = false := by
  rcases h with rfl | h
  · exact opens_unselected s p
  · cases selected
    · exact opens_unselected s p
    · exact Bool.eq_false_iff.2 fun ho => h ((opens_iff_Open s p).1 ho)

theorem dataWrite_of_not_opens {advance : Bool} (h : s.opens p selected = false) (w : Word) :
    s.dataWrite ⟨p, selected, advance⟩ w = s := by simp [State.dataWrite, h]

theorem readCycle_of_not_opens (h : s.opens p selected = false) (x : Access) : s.readCycle p selected x = s := by
  simp [State.readCycle, h]

theorem controlWrite_of_not_opens (h : s.opens p selected = false) (w : Word) : s.controlWrite p selected w = s := by
  simp [State.controlWrite, h]

theorem pointerWrite_of_not_opens (h : s.opens p selected = false) (w : Word) : s.pointerWrite p selected w = s := by
  simp [State.pointerWrite, h]

theorem earlyClose_of_not_opens (h : s.opens p selected = false) (x : Access) (isRead : Bool) :
    s.earlyClose p selected x isRead = s := by simp [State.earlyClose, h]

/-- Settles O7: every cycle asks first whether it opens. -/
theorem aCycleThatDoesNotOpenIsNothing : Obligations.ACycleThatDoesNotOpenIsNothing := by
  intro s p selected h
  have hopens : s.opens p selected = false := opens_eq_false h
  have hwrite (advance : Bool) (w : Word) : s.dataWrite ⟨p, selected, advance⟩ w = s := dataWrite_of_not_opens hopens w
  have hread (x : Access) : s.readCycle p selected x = s := readCycle_of_not_opens hopens x
  have hcontrol (w : Word) : s.controlWrite p selected w = s := controlWrite_of_not_opens hopens w
  refine ⟨fun advance w => ?_, fun x isRead =>
    ⟨congrArg Host.Outcome.next (hread x), congrArg Host.Outcome.next (earlyClose_of_not_opens hopens x isRead)⟩⟩
  have hdata (v : Word) : (Host.Outcome.next (s.dataWrite ⟨p, selected, advance⟩ v) : StepOutcome) = .next s :=
    congrArg Host.Outcome.next (hwrite advance v)
  simp only [List.forall_mem_cons, List.not_mem_nil, false_implies, implies_true, and_true]
  exact ⟨hdata 1, hdata 2, hdata 3, hdata 4, hdata 5, hdata 6, hdata 7, hdata w, hdata w, hdata w,
    congrArg Host.Outcome.next (hread _), congrArg Host.Outcome.next (hcontrol w),
    congrArg Host.Outcome.next (hcontrol _), congrArg Host.Outcome.next (pointerWrite_of_not_opens hopens w)⟩

end Opening

section Releases

/-- Settles O5. -/
theorem releasesAndStartUp : Obligations.ReleasesAndStartUp := by
  intro s
  refine ⟨fun xrate hn => ?_, fun xrate hn => ?_, fun p => rfl, fun hr hn => ?_, fun h => ?_, rfl⟩
  · exact congrArg Host.Outcome.next (if_pos hn)
  · exact congrArg Host.Outcome.next (if_neg fun h => by rw [hn] at h; cases h)
  · exact congrArg Host.Outcome.next (if_pos ⟨hr, hn⟩)
  · refine congrArg Host.Outcome.next (if_neg fun ⟨hr, hn⟩ => ?_)
    rw [hr, hn] at h
    rcases h with h | h <;> cases h

end Releases

section CommitChecks

variable {s : State} {c : DataCycle}

theorem dataWrite_notStarted (h1 : c.selected = true) (h2 : Open s c.port) (h3 : (s.port c.port).writePtr = 0x010)
    (hr : s.timebase.startState = .starting) (w : Word) : s.dataWrite c w = answered s c w .notStarted none := by
  rw [dataWrite_commit s c w h1 h2 h3, State.decideCommit, stored_timebase, hr]
  exact concluded_refuse s c w .notStarted

theorem dataWrite_badKind (h1 : c.selected = true) (h2 : Open s c.port) (h3 : (s.port c.port).writePtr = 0x010)
    (hr : s.timebase.startState = .running) {w : Word} (hw : w.toNat = 0 ∨ 7 < w.toNat) :
    s.dataWrite c w = answered s c w .badKind none := by
  rw [dataWrite_commit s c w h1 h2 h3, decideCommit_running s c w hr]
  split
  case h_8 => exact concluded_refuse s c w .badKind
  all_goals omega

/-- Settles O18. -/
theorem commitChecksStartThenKind : Obligations.CommitChecksStartThenKind := by
  intro c w s h1 h2 h3
  refine ⟨fun hr => ?_, fun hr hw => congrArg _ (dataWrite_badKind h1 h2 h3 hr hw)⟩
  have hrefused (v : Word) :
      (Host.Outcome.next (s.dataWrite c v) : StepOutcome) = .next (answered s c v .notStarted none) :=
    congrArg Host.Outcome.next (dataWrite_notStarted h1 h2 h3 hr v)
  exact ⟨hrefused 1, hrefused 2, hrefused 3, hrefused 4, hrefused 5, hrefused 6, hrefused 7, hrefused w⟩

end CommitChecks

end Sys2Proof.Cycles

/-! What a port reset and a device reset leave. -/

namespace Sys2Proof.Resets

open Sys2Proof.Machine Sys2Proof.Statement Sys2Proof.Claims Sys2Proof.Requests Sys2Proof.Invariants

section PortReset

variable {s : State} {p : Port}

/-- The waiters of the other port (R56). -/
def remaining (p : Port) (ws : List Waiter) : List Waiter := ws.filter fun w => decide (w.port ≠ p)

theorem dropWaiters_port (ws : List Waiter) : dropWaiters (fun w => decide (w.port = p)) ws = remaining p ws := by
  simp [dropWaiters, remaining]

theorem remaining_eq_self_iff (ws : List Waiter) : remaining p ws = ws ↔ ¬ ws.any (fun w => decide (w.port = p)) = true := by
  simp [remaining, List.filter_eq_self]

/-- An entry loses the port's waiters, and one that had no others leaves the list (R55). -/
theorem thinnedEntry_port (e : PendingEntry) : thinnedEntry (fun w => decide (w.port = p)) e =
    if remaining p e.waiters = e.waiters then some e
    else if remaining p e.waiters = [] then none else some { e with waiters := remaining p e.waiters } := by
  unfold thinnedEntry
  by_cases h : remaining p e.waiters = e.waiters
  · rw [if_neg ((remaining_eq_self_iff _).1 h), if_pos h]
  · rw [if_pos (Classical.not_not.1 fun hn => h ((remaining_eq_self_iff _).2 hn)), if_neg h, dropWaiters_port]
    simp only [List.isEmpty_iff]

theorem quietActive_eq (p : Port) :
    s.quietActive = ((s.port p).quietEnd.isSome || (s.port (peer p)).quietEnd.isSome) := by
  cases p
  · rfl
  · exact Bool.or_comm _ _

theorem quietActive_portCleared_eq (pin : Level) :
    (portCleared s p pin).quietActive = (s.port (peer p)).quietEnd.isSome := by
  cases p
  · rfl
  · exact Bool.or_false _

/-- A port reset takes quiet from active to not active when its port holds the only window. -/
theorem quiet_ends_iff (pin : Level) :
    s.quietActive = true ∧ (portCleared s p pin).quietActive = false ↔
      (s.port p).quietEnd ≠ none ∧ (s.port (peer p)).quietEnd = none := by
  rw [quietActive_portCleared_eq, quietActive_eq p]
  cases (s.port (peer p)).quietEnd <;> simp [Option.isSome_iff_ne_none]

theorem resetPort_eq_cleared (pin : Level) : s.resetPort p pin = { portCleared s p pin with
    converter :=
      if s.converter.state = .held ∧ (s.port p).quietEnd ≠ none ∧ (s.port (peer p)).quietEnd = none then
        { s.converter with state := .idle }
      else s.converter } := by
  have hc : (portCleared s p pin).converter = s.converter := by simp [portCleared]
  rw [resetPort_eq_ended]
  by_cases hq : (s.port p).quietEnd ≠ none ∧ (s.port (peer p)).quietEnd = none
  · rw [if_pos ((quiet_ends_iff pin).2 hq), quietEnds_eq, hc, unheld]
    by_cases hheld : s.converter.state = .held
    · rw [if_pos hheld, if_pos ⟨hheld, hq⟩]
    · rw [if_neg hheld, if_neg fun h => hheld h.1]
  · rw [if_neg fun h => hq ((quiet_ends_iff pin).1 h), if_neg fun h => hq h.2, ← hc]

/-- Settles O6. -/
theorem portResetActsOnOnePort : Obligations.PortResetActsOnOnePort := by
  intro p s left goes endsQuiet after
  have hgoes : s.ownsDeadline p = goes := by
    funext i
    cases i <;> rfl
  have hafter (pin : Level) : s.resetPort p pin = after pin := by
    rw [resetPort_eq_cleared, portCleared, hgoes, State.removeWaiters, funext thinnedEntry_port]
    simp only [dropWaiters_port]
    cases p <;> rfl
  refine ⟨congrArg Host.Outcome.next (hafter .low), fun w ho => ?_⟩
  rw [ControlWord.exec_resetAction_resets ho, ho.2, hafter]

end PortReset

section DeviceReset

/-- Settles O4. -/
theorem deviceResetRestoresEveryBlock : Obligations.DeviceResetRestoresEveryBlock := by
  refine ⟨fun cause s => ⟨s.resetDevice cause, rfl, rfl, fun c => ?_, fun c => ?_, rfl, rfl, fun p => ?_, rfl, rfl, ?_, fun r => ?_,
    rfl, rfl, rfl, rfl, rfl, rfl, rfl, rfl, rfl, rfl, rfl, ?_⟩, fun s h1 h2 h3 h4 => ?_, rfl, rfl, rfl, rfl, rfl⟩
  · exact Vector.getElem_ofFn _
  · exact Vector.getElem_replicate _
  · rw [resetDevice_port, portReset_eq]
  · rfl
  · exact Vector.getElem_replicate _
  · cases cause with
    | powerOn xrate =>
      refine ⟨rfl, ?_⟩
      cases xrate
      · exact iff_of_false (show BusRate.standard ≠ .fast from nofun) nofun
      · exact iff_of_true rfl rfl
    | resetPin => exact ⟨rfl, rfl⟩
  · refine congrArg Host.Outcome.next ?_
    rw [State.resetDevice, h1, h3, h4, pinAfter, h2]
    rfl

end DeviceReset

end Sys2Proof.Resets

/-! What a port holds for its host — pointers, control word, Read Buffer, reset pin and event flags — under the work of the
shared blocks: that work only raises flags of it, and the work of one port's commit does not reach the other port. -/

namespace Sys2Proof.HostSide

open Sys2Proof.Machine Sys2Proof.Statement Sys2Proof.Claims Sys2Proof.Requests Sys2Proof.Invariants

/-- The host's side of a port stands, but that flags may have been raised. -/
structure Kept (x y : PortState) : Prop where
  rstN : y.rstN = x.rstN
  readPtr : y.readPtr = x.readPtr
  writePtr : y.writePtr = x.writePtr
  control : y.control = x.control
  buffer : y.buffer = x.buffer
  flags : ∀ f, x.flags.get f = true → y.flags.get f = true

/-- Work of the shared blocks that reaches the ports of `P` alone. -/
structure Served (P : Port → Prop) (s t : State) : Prop where
  beside : ∀ q, ¬ P q → t.port q = s.port q
  kept : ∀ q, Kept (s.port q) (t.port q)

section Served

variable {P : Port → Prop} {s t u : State} {p : Port}

theorem Kept.refl (x : PortState) : Kept x x := ⟨rfl, rfl, rfl, rfl, rfl, fun _ => id⟩

theorem Kept.trans {x y z : PortState} (h : Kept x y) (h' : Kept y z) : Kept x z :=
  ⟨h'.rstN.trans h.rstN, h'.readPtr.trans h.readPtr, h'.writePtr.trans h.writePtr, h'.control.trans h.control,
    h'.buffer.trans h.buffer, fun f hf => h'.flags f (h.flags f hf)⟩

theorem get_raise {x : EventFlags} {f g : Flag} (h : x.get g = true) : (x.raise f).get g = true := by
  cases f <;> cases g <;> first | rfl | exact h

/-- What changes only slots, records, the version counter and the window of a port. -/
theorem Kept.of_holdings {x : PortState} (slots : Vector Slot 12) (queue : List ResponseRecord) (version : Word)
    (quietEnd : Option Stamp) :
    Kept x { x with slots := slots, queue := queue, version := version, quietEnd := quietEnd } :=
  ⟨rfl, rfl, rfl, rfl, rfl, fun _ => id⟩

theorem Served.of_port (h : ∀ q, t.port q = s.port q) : Served P s t := ⟨fun q _ => h q, fun q => h q ▸ .refl _⟩

theorem Served.refl (s : State) : Served P s s := .of_port fun _ => rfl

theorem Served.trans (h : Served P s t) (h' : Served P t u) : Served P s u :=
  ⟨fun q hq => (h'.beside q hq).trans (h.beside q hq), fun q => (h.kept q).trans (h'.kept q)⟩

/-- Work that leaves the ports follows on. -/
theorem Served.port (h : Served P s t) (hu : ∀ q, u.port q = t.port q) : Served P s u := h.trans (.of_port hu)

theorem Served.setPort (hp : P p) {x : PortState} (h : Kept (s.port p) x) : Served P s (s.setPort p x) := by
  refine ⟨fun q hq => State.port_setPort_of_ne s p q x fun heq => hq (heq ▸ hp), fun q => ?_⟩
  rw [State.port_setPort_eq]
  split
  · next heq => exact heq ▸ h
  · exact .refl _

theorem raise_served (hp : P p) (f : Flag) : Served P s (s.raise p f) := by
  unfold State.raise
  split
  · exact .refl s
  · exact .setPort hp ⟨rfl, rfl, rfl, rfl, rfl, fun g => get_raise⟩

theorem setSlot_served (hp : P p) (i : SlotNo) (x : Slot) : Served P s (s.setSlot p i x) :=
  .setPort hp (.of_holdings _ _ _ _)

theorem appendRecord_served (hp : P p) (r : ResponseRecord) : Served P s (s.appendRecord p r) :=
  .setPort hp (.of_holdings _ _ _ _)

theorem changeRecord_served (hp : P p) (i : SlotNo) (f : ResponseRecord → ResponseRecord) :
    Served P s (s.changeRecord p i f) :=
  .setPort hp (.of_holdings _ _ _ _)

theorem foldl_served {α : Type} {f : State → α → State} (h : ∀ s a, Served P s (f s a)) (l : List α) :
    Served P s (l.foldl f s) := by
  induction l generalizing s with
  | nil => exact .refl s
  | cons a l ih => exact (h s a).trans ih

/-! ## Deliveries, ends and requests -/

theorem deliver_served (hp : P p) (i : SlotNo) (source : Source) (part : ResultPart) :
    Served P s (s.deliver p i source part) := by
  unfold State.deliver
  dsimp only
  split
  · exact (setSlot_served hp i _).trans (appendRecord_served hp _)
  · split
    · exact (setSlot_served hp i _).trans (changeRecord_served hp i _)
    · exact (setSlot_served hp i _).trans (appendRecord_served hp _)

theorem endSlot_served (hp : P p) (i : SlotNo) (d : Disposition) : Served P s (s.endSlot p i d) := by
  have hended : Served P s ((if (s.slot p i).kind = .watch then s.dropDeadline (.watchDue p i) else s).setSlot p i
      { s.slot p i with state := .finished }) := by
    split
    · exact (Served.of_port fun q => State.port_dropDeadline s q _).trans (setSlot_served hp i _)
    · exact setSlot_served hp i _
  unfold State.endSlot
  dsimp only
  split
  · exact hended.trans (changeRecord_served hp i _)
  · exact hended.trans (appendRecord_served hp _)

theorem requestConversion_served (hp : P p) (i : SlotNo) : Served P s (s.requestConversion p i) := by
  unfold State.requestConversion
  dsimp only
  split
  · exact deliver_served hp i _ _
  · exact (setSlot_served hp i _).port fun q => port_withPendingList ..

theorem deliverAll_served (hP : ∀ q, P q) (ws : List Waiter) (part : ResultPart) : Served P s (s.deliverAll ws part) :=
  foldl_served (α := Waiter) (fun _ w => deliver_served (hP w.port) w.slot _ part) _

theorem withdraw_served (hP : ∀ q, P q) (c : Channel) : Served P s (s.withdraw c) := by
  refine .trans (.of_port fun q => port_withPendingList ..) (foldl_served (fun t w => ?_) _)
  unfold State.withdrawSlot
  dsimp only
  split
  · exact endSlot_served (hP w.port) w.slot _
  · exact .refl t

theorem complete_served (hP : ∀ q, P q) (c : Channel) : Served P s (s.complete c) := by
  have hdone (r : ConversionRecord) (o : ConversionOutcome) : Served P s (finished s c r o) :=
    .trans (.of_port fun q => by cases q <;> rfl) (deliverAll_served hP _ _)
  unfold State.complete
  split
  · exact .refl s
  · split
    · exact .refl s
    · dsimp only
      split
      · exact ((hdone _ _).trans (raise_served (hP .a) _)).trans (raise_served (hP .b) _)
      · exact hdone _ _

/-! ## Windows and claims -/

theorem openQuiet_served (hp : P p) (x : Stamp) : Served P s (s.openQuiet p x) := by
  have hset : Served P s (windowSet s p x) :=
    (Served.setPort hp (.of_holdings _ _ _ _)).port fun q => State.port_placeDeadline ..
  unfold State.openQuiet
  dsimp only
  split
  · exact hset
  · exact hset.port fun q => port_quietOnset ..

theorem closeQuiet_served (hp : P p) : Served P s (s.closeQuiet p) := by
  have hcleared : Served P s (windowCleared s p) :=
    (Served.setPort hp (.of_holdings _ _ _ _)).port fun q => State.port_dropDeadline ..
  unfold State.closeQuiet
  split
  · dsimp only
    split
    · exact hcleared
    · exact hcleared.port fun q => port_quietEnds ..
  · exact .refl s

theorem acknowledge_served (hp : P p) (v : Word) : Served P s (s.acknowledge p v) := by
  unfold State.acknowledge
  split
  · exact raise_served hp _
  · split
    · exact (Served.setPort hp (.of_holdings _ _ _ _)).trans (setSlot_served hp _ _)
    · exact raise_served hp _

/-! ## Commits -/

theorem decideConvert_served (hp : P p) : Served P s (s.decideConvert p).state := by
  unfold State.decideConvert
  (repeat' split) <;>
    first | exact .refl s | exact (setSlot_served hp _ _).trans (requestConversion_served hp _)

theorem decideWatch_served (hp : P p) : Served P s (s.decideWatch p).state := by
  unfold State.decideWatch
  (repeat' split) <;>
    first
    | exact .refl s
    | exact ((setSlot_served hp _ _).port fun q => State.port_placeDeadline ..).trans (requestConversion_served hp _)

theorem decideCancel_served (hp : P p) : Served P s (s.decideCancel p).state := by
  unfold State.decideCancel
  split
  · exact .refl s
  · split
    · exact .trans (.of_port fun q => port_removeWaiters ..) (endSlot_served hp _ _)
    · exact endSlot_served hp _ _
    all_goals exact .refl s

theorem decideClaim_served : Served P s (s.decideClaim p).state := by
  unfold State.decideClaim
  (repeat' split) <;> exact .of_port fun q => by simp [State.accept, State.refuse]

theorem decideRelease_served : Served P s (s.decideRelease p).state := by
  unfold State.decideRelease
  (repeat' split) <;> exact .of_port fun q => by simp [State.accept, State.refuse, State.endClaim]

/-- A CONFIGURE reaches other ports only when it withdraws a channel (R13, R57). -/
theorem decideConfigure_served (h : settingsEnable (s.staging p).settings = true ∨ ∀ q, P q) :
    Served P s (s.decideConfigure p).state := by
  have hwithdrawn (hP : ∀ q, P q) (c : Channel) (x : ChannelRecord) : Served P s ((s.setChannel c x).withdraw c) :=
    .trans (.of_port fun q => State.port_setChannel ..) (withdraw_served hP c)
  unfold State.decideConfigure
  split
  · exact .refl s
  · split
    · split
      · exact .refl s
      · split
        · (repeat' split) <;> exact .of_port fun q => by simp [State.accept, State.refuse]
        · next hoff =>
          simpa only [State.accept] using hwithdrawn (h.resolve_left hoff) _ _
    · exact .refl s

theorem decideQuiet_served (hp : P p) : Served P s (s.decideQuiet p).state := by
  unfold State.decideQuiet
  split
  · split
    · exact closeQuiet_served hp
    · exact openQuiet_served hp _
  · exact .refl s

theorem decideCommit_served (hp : P p)
    (h : (s.staging p).command ≠ 6 ∨ settingsEnable (s.staging p).settings = true ∨ ∀ q, P q) :
    Served P s (s.decideCommit p).state := by
  unfold State.decideCommit
  split
  · exact .refl s
  · split
    · exact decideConvert_served hp
    · exact decideWatch_served hp
    · exact decideCancel_served hp
    · exact decideClaim_served
    · exact decideRelease_served
    · next hsix => exact decideConfigure_served (h.resolve_left fun hne => hne (BitVec.eq_of_toNat_eq hsix))
    · exact decideQuiet_served hp
    · exact .refl s

theorem commit_served (hp : P p)
    (h : (s.staging p).command ≠ 6 ∨ settingsEnable (s.staging p).settings = true ∨ ∀ q, P q) :
    Served P s (s.commit p) :=
  (decideCommit_served hp h).trans (.setPort hp ⟨rfl, rfl, rfl, rfl, rfl, fun _ => id⟩)

/-! ## Expiries and ticks -/

/-- Work of any port. -/
abbrev ServedAll : State → State → Prop := Served fun _ => True

theorem Internal.served (h : Internal s t) : Served P s t := by
  obtain ⟨-, -, -, -, -, ha, hb, -⟩ := h.frame
  exact .of_port fun q => by cases q <;> assumption

theorem takeDueExpiry_served (i : SlotNo) : ServedAll s (s.takeDueExpiry p i) := by
  have hplaced (x : Slot) (d : Stamp) : ServedAll s ((s.setSlot p i x).placeDeadline (.watchDue p i) d) :=
    (setSlot_served trivial i x).port fun q => State.port_placeDeadline ..
  unfold State.takeDueExpiry
  split
  · dsimp only
    split
    · exact (hplaced _ _).trans (requestConversion_served trivial i)
    · exact hplaced _ _
    all_goals exact .refl s
  · exact .refl s

theorem takeClaimExpiry_served (c : Channel) : ServedAll s (s.takeClaimExpiry c) := by
  have hended : ServedAll s (s.endClaim c) := .of_port fun q => by simp [State.endClaim]
  unfold State.takeClaimExpiry
  split
  · split
    · exact hended.trans (raise_served trivial _)
    · exact hended
  · exact .refl s

theorem takeQuietExpiry_served : ServedAll s (s.takeQuietExpiry p) := by
  unfold State.takeQuietExpiry
  split
  · exact (closeQuiet_served trivial).trans (raise_served trivial _)
  · exact .refl s

theorem takeExpiry_served (i : DeadlineItem) : ServedAll s (s.takeExpiry i) := by
  cases i with
  | watchDue p i => exact takeDueExpiry_served i
  | claim c => exact takeClaimExpiry_served c
  | quietEnd p => exact takeQuietExpiry_served
  | readDue r => exact Internal.served (takeReadExpiry_internal s r)
  | holdLimit => exact Internal.served (takeHoldExpiry_internal s)
  | busWait => exact Internal.served (takeBusWaitExpiry_internal s)

theorem tap_served : ServedAll s (s.tap p) := by
  unfold State.tap
  split
  · exact raise_served trivial _
  · exact .refl s

theorem edges_served (l : List CountEdge) : ServedAll s (s.edges l) :=
  .of_port fun q => by cases q <;> simp [State.port]

theorem advanceTick_served (linesHigh : Bool) : ServedAll s (s.advanceTick linesHigh) := by
  have hadvanced : ServedAll s { s with timebase := s.timebase.advance } := .of_port fun q => by cases q <;> rfl
  exact ((hadvanced.trans tap_served).trans tap_served).port fun q => by cases q <;> rfl

theorem tickEvent_served (x : TickInput) : ServedAll s (s.tickEvent x) := by
  unfold State.tickEvent
  split
  · exact (((foldl_served (fun t i => takeExpiry_served i) _).trans (edges_served _)).trans (edges_served _)).trans
      (advanceTick_served _)
  · exact .refl s

end Served

end Sys2Proof.HostSide

/-! The cycles of one port: what they leave alone of the other port, of the flags and of the Read Buffer. -/

namespace Sys2Proof.HostSide

open Sys2Proof.Machine Sys2Proof.Statement Sys2Proof.Claims Sys2Proof.Requests Sys2Proof.Invariants

section Cycles

variable {s t : State} {p q : Port}

/-! ## Reads -/

theorem windowTarget_event {a : BitVec 9} (h : windowTarget a = .record .event 0) : a = 0x004 := by
  refine BitVec.eq_of_toNat_eq (show a.toNat = 0x004 from ?_)
  unfold windowTarget at h
  grind (splits := 20)

theorem windowTarget_command {a : BitVec 9} (h : windowTarget a = .staging 0) : a = 0x010 := by
  refine BitVec.eq_of_toNat_eq (show a.toNat = 0x010 from ?_)
  unfold windowTarget at h
  grind (splits := 20)

theorem snapshotFor_setPort (a : BitVec 9) :
    ∃ b, s.snapshotFor p a = s.setPort p { s.port p with buffer := b } := by
  have hsame : s = s.setPort p { s.port p with buffer := (s.port p).buffer } := (State.setPort_port s p).symm
  unfold State.snapshotFor
  split
  · split
    · exact ⟨_, rfl⟩
    · exact ⟨_, hsame⟩
  all_goals exact ⟨_, hsame⟩

theorem clearDriven_setPort (a : BitVec 9) (w : Word) :
    ∃ f, s.clearDriven p a w = s.setPort p { s.port p with flags := f } ∧ (a ≠ 0x004 → f = (s.port p).flags) := by
  unfold State.clearDriven
  split
  · next h => exact ⟨_, rfl, fun hne => absurd (windowTarget_event h) hne⟩
  · exact ⟨_, (State.setPort_port s p).symm, fun _ => rfl⟩

theorem dataRead_eq (advance : Bool) :
    s.dataRead p advance =
      (let a := (s.port p).readPtr
       let w := (s.snapshotFor p a).wordAt p a
       let t := (s.snapshotFor p a).clearDriven p a w
       t.setPort p (afterRead (t.port p) advance w)) := by
  simp only [State.dataRead, State.drive, advanceRead_eq, afterRead]
  cases advance <;> simp

/-- A DATA read changes nothing but the buffer, the flags at 004h, the pointers and PxD. -/
theorem dataRead_setPort (advance : Bool) : ∃ b f w,
    s.dataRead p advance = s.setPort p (afterRead { s.port p with buffer := b, flags := f } advance w)
      ∧ ((s.port p).readPtr ≠ 0x004 → f = (s.port p).flags) := by
  rw [dataRead_eq]
  obtain ⟨b, hb⟩ := snapshotFor_setPort (s := s) (p := p) (s.port p).readPtr
  dsimp only
  generalize hw : (s.snapshotFor p (s.port p).readPtr).wordAt p (s.port p).readPtr = w
  obtain ⟨f, hf, hkept⟩ := clearDriven_setPort (s := s.snapshotFor p (s.port p).readPtr) (p := p) (s.port p).readPtr w
  refine ⟨b, f, w, ?_, fun h => ?_⟩
  · rw [hf, hb]
    simp
  · rw [hkept h, hb]
    simp

/-- A read cycle changes the port's own registers alone. -/
theorem readCycle_setPort (selected : Bool) (x : Access) : ∃ y, s.readCycle p selected x = s.setPort p y := by
  unfold State.readCycle
  split
  · cases x
    case control | pointer => exact ⟨_, rfl⟩
    · obtain ⟨_, _, _, h, -⟩ := dataRead_setPort (s := s) (p := p) true
      exact ⟨_, h⟩
    · obtain ⟨_, _, _, h, -⟩ := dataRead_setPort (s := s) (p := p) false
      exact ⟨_, h⟩
  · exact ⟨_, (State.setPort_port s p).symm⟩

/-! ## The other port -/

theorem resetPort_beside (hq : q ≠ p) (pin : Level) : (s.resetPort p pin).port q = s.port q := by
  rw [Resets.resetPort_eq_cleared]
  cases p <;> cases q <;> first | contradiction | rfl

theorem controlWrite_beside (hq : q ≠ p) (selected : Bool) (w : Word) :
    (s.controlWrite p selected w).port q = s.port q := by
  unfold State.controlWrite
  split
  · split
    · exact resetPort_beside hq _
    · simp only [State.drive, State.setPort_setPort, State.port_setPort_of_ne _ _ _ _ hq]
  · rfl

theorem pointerWrite_beside (hq : q ≠ p) (selected : Bool) (w : Word) :
    (s.pointerWrite p selected w).port q = s.port q := by
  unfold State.pointerWrite
  split
  · simp only [State.drive, State.setPort_setPort, State.port_setPort_of_ne _ _ _ _ hq]
  · rfl

theorem readCycle_beside (hq : q ≠ p) (selected : Bool) (x : Access) :
    (s.readCycle p selected x).port q = s.port q := by
  obtain ⟨y, hy⟩ := readCycle_setPort (s := s) (p := p) selected x
  rw [hy, State.port_setPort_of_ne _ _ _ _ hq]

theorem raise_setPort (f : Flag) : ∃ x : EventFlags, s.raise p f = s.setPort p { s.port p with flags := x }
    ∧ ∀ g, (s.port p).flags.get g = true → x.get g = true := by
  unfold State.raise
  split
  · exact ⟨_, (State.setPort_port s p).symm, fun _ => id⟩
  · exact ⟨_, rfl, fun g => get_raise⟩

/-- An early close: a snapshot perhaps, PxD and the flag. -/
theorem earlyClose_setPort (selected : Bool) (x : Access) (isRead : Bool) : ∃ b f d,
    s.earlyClose p selected x isRead = s.setPort p { s.port p with buffer := b, flags := f, dataOut := d }
      ∧ ∀ g, (s.port p).flags.get g = true → f.get g = true := by
  have hsame : s = s.setPort p { s.port p with
    buffer := (s.port p).buffer, flags := (s.port p).flags, dataOut := (s.port p).dataOut } := (State.setPort_port s p).symm
  unfold State.earlyClose
  split
  · have hsnap : ∃ b, (if isRead && isData x then s.snapshotFor p (s.port p).readPtr else s) =
        s.setPort p { s.port p with buffer := b } := by
      split
      · exact snapshotFor_setPort _
      · exact ⟨_, (State.setPort_port s p).symm⟩
    obtain ⟨b, hb⟩ := hsnap
    obtain ⟨f, hf, hkept⟩ := raise_setPort (p := p) .earlyStrobe
      (s := (s.setPort p { s.port p with buffer := b }).drive p (if isRead then some 0xFFFF else none))
    refine ⟨b, f, if isRead then some 0xFFFF else none, ?_, fun g hg => hkept g ?_⟩
    · dsimp only
      rw [hb, hf]
      simp [State.drive]
    · simpa [State.drive] using hg
  · exact ⟨_, _, _, hsame, fun _ => id⟩

theorem earlyClose_beside (hq : q ≠ p) (selected : Bool) (x : Access) (isRead : Bool) :
    (s.earlyClose p selected x isRead).port q = s.port q := by
  obtain ⟨b, f, d, h, -⟩ := earlyClose_setPort (s := s) (p := p) selected x isRead
  rw [h, State.port_setPort_of_ne _ _ _ _ hq]

/-! ## Writes -/

/-- A DATA write stores a word, then serves a commit or an acknowledgement of its port. The other port is reached only by a
commit that withdraws a channel (R13, R57). -/
theorem storeAt_served {P : Port → Prop} (hp : P p) (a : BitVec 9) (w : Word)
    (h : (w ≠ 6 ∨ a ≠ 0x010 ∨ (s.port p).staging.settings.getLsbD 0 = true) ∨ ∀ q, P q) :
    Served P s (s.storeAt p a w) := by
  have hstored (i : Nat) : Served P s (s.setPort p { s.port p with staging := (s.port p).staging.store i w }) :=
    .setPort hp ⟨rfl, rfl, rfl, rfl, rfl, fun _ => id⟩
  unfold State.storeAt
  split
  · next i hi =>
    dsimp only
    split
    · next hzero =>
      subst hzero
      refine (hstored 0).trans (commit_served hp ?_)
      rw [State.staging, State.port_setPort]
      rcases h with (h | h | h) | h
      · exact .inl h
      · exact absurd (windowTarget_command hi) h
      · exact .inr (.inl h)
      · exact .inr (.inr h)
    · exact hstored i
  · exact acknowledge_served hp w
  all_goals exact .refl s

theorem dataWrite_beside {c : DataCycle} (hq : q ≠ c.port) (w : Word)
    (h : w ≠ 6 ∨ (s.port c.port).writePtr ≠ 0x010 ∨ (s.port c.port).staging.settings.getLsbD 0 = true) :
    (s.dataWrite c w).port q = s.port q := by
  have hstore := (storeAt_served (P := (· = c.port)) rfl (s.port c.port).writePtr w (.inl h)).beside q hq
  unfold State.dataWrite
  split
  · simp only [State.drive, State.port_setPort_of_ne _ _ _ _ hq]
    split
    · rw [State.port_setPort_of_ne _ _ _ _ hq, hstore]
    · exact hstore
  · rfl

/-- Settles O16: a cycle works on its own port's registers, and what a write sets off serves its own port. -/
theorem portsAreIndependent : Obligations.PortsAreIndependent := by
  intro i s t p h hi
  have hne : peer p ≠ p := peer_ne p
  have hwrite {c : DataCycle} {w : Word} (hc : c.port = p)
      (hw : w ≠ 6 ∨ (s.port p).writePtr ≠ 0x010 ∨ (s.port p).staging.settings.getLsbD 0 = true) :
      (s.dataWrite c w).port (peer p) = s.port (peer p) := by
    subst hc
    exact dataWrite_beside hne w hw
  cases i <;> cases h <;> dsimp only at hi
  case convert | watch | cancel | claim | release | quiet => exact hwrite hi (.inl (by decide))
  case configure => exact hwrite hi.1 (.inr hi.2)
  case commitBadKind | acknowledgement | stagingWrite => exact hwrite hi.1 hi.2
  case controlWrite | resetAction => exact hi ▸ controlWrite_beside (hi ▸ hne) _ _
  case pointerWrite => exact hi ▸ pointerWrite_beside (hi ▸ hne) _ _
  case snapshot | eventRecordRead => exact hi ▸ readCycle_beside (hi ▸ hne) _ _
  case earlyStrobe => exact hi ▸ earlyClose_beside (hi ▸ hne) _ _ _
  case portReset => exact hi ▸ resetPort_beside (hi ▸ hne) _
  case portResetRelease => exact hi ▸ State.port_setPort_of_ne _ _ _ _ (hi ▸ hne)

end Cycles

end Sys2Proof.HostSide

/-! Event flags and the Read Buffer under every command. -/

namespace Sys2Proof.HostSide

open Sys2Proof.Machine Sys2Proof.Statement Sys2Proof.Claims Sys2Proof.Requests Sys2Proof.Invariants

/-- The Read Buffer stands, and every flag that is set. -/
structure Latched (x y : PortState) : Prop where
  buffer : y.buffer = x.buffer
  flags : ∀ f, x.flags.get f = true → y.flags.get f = true

section Latches

variable {s t u : State} {p q : Port}

theorem Latched.refl (x : PortState) : Latched x x := ⟨rfl, fun _ => id⟩

theorem Latched.of_eq {x y : PortState} (h : y = x) : Latched x y := h ▸ .refl x

theorem Latched.trans {x y z : PortState} (h : Latched x y) (h' : Latched y z) : Latched x z :=
  ⟨h'.buffer.trans h.buffer, fun f hf => h'.flags f (h.flags f hf)⟩

theorem Kept.latched {x y : PortState} (h : Kept x y) : Latched x y := ⟨h.buffer, h.flags⟩

theorem Served.latched (h : ServedAll s t) (q : Port) : Latched (s.port q) (t.port q) := (h.kept q).latched

theorem latched_setPort {x : PortState} (h : Latched (s.port p) x) (q : Port) :
    Latched (s.port q) ((s.setPort p x).port q) := by
  rw [State.port_setPort_eq]
  split
  · next heq => exact heq ▸ h
  · exact .refl _

theorem drive_latched (w : Option Word) (q : Port) : Latched (s.port q) ((s.drive p w).port q) := by
  refine latched_setPort ?_ q
  exact ⟨rfl, fun _ => id⟩

theorem dataWrite_latched (c : DataCycle) (w : Word) (q : Port) : Latched (s.port q) ((s.dataWrite c w).port q) := by
  unfold State.dataWrite
  split
  · have hstored := (storeAt_served (P := fun _ => True) (s := s) (p := c.port) trivial (s.port c.port).writePtr w
      (.inr fun _ => trivial)).latched q
    dsimp only
    refine .trans ?_ (drive_latched _ q)
    split
    · refine hstored.trans (latched_setPort ?_ q)
      rw [advanceWrite_eq]
      exact ⟨rfl, fun _ => id⟩
    · exact hstored
  · exact .refl _

theorem controlWrite_latched {w : Word} (h : p ≠ q ∨ w.getLsbD 15 = false) (selected : Bool) :
    Latched (s.port q) ((s.controlWrite p selected w).port q) := by
  rcases h with h | h
  · exact .of_eq (controlWrite_beside h.symm selected w)
  · unfold State.controlWrite
    split
    · rw [if_neg (show ¬ controlResets w = true from Bool.eq_false_iff.1 h)]
      refine (latched_setPort ?_ q).trans (drive_latched _ q)
      exact ⟨rfl, fun _ => id⟩
    · exact .refl _

theorem pointerWrite_latched (selected : Bool) (w : Word) (q : Port) :
    Latched (s.port q) ((s.pointerWrite p selected w).port q) := by
  unfold State.pointerWrite
  split
  · refine (latched_setPort ?_ q).trans (drive_latched _ q)
    unfold PortState.writePointer
    (repeat' split) <;> exact ⟨rfl, fun _ => id⟩
  · exact .refl _

theorem readCycle_control_or_pointer_latched {x : Access} (h : x = .control ∨ x = .pointer) (selected : Bool) (q : Port) :
    Latched (s.port q) ((s.readCycle p selected x).port q) := by
  unfold State.readCycle
  split
  · rcases h with rfl | rfl <;> exact drive_latched _ q
  · exact .refl _

/-- A read of any address but the event record's clears no flag (R157). -/
theorem readCycle_flags (h : (s.port p).readPtr ≠ 0x004) (selected : Bool) (x : Access) (q : Port) {f : Flag}
    (hf : (s.port q).flags.get f = true) : ((s.readCycle p selected x).port q).flags.get f = true := by
  have hdata (advance : Bool) : ((s.dataRead p advance).port q).flags.get f = true := by
    obtain ⟨b, g, w, heq, hkept⟩ := dataRead_setPort (s := s) (p := p) advance
    rw [heq, State.port_setPort_eq]
    split
    · next hqp =>
      rw [hqp] at hf
      exact (congrArg (·.get f) (hkept h)).trans hf
    · exact hf
  unfold State.readCycle
  split
  · cases x
    case control | pointer => exact (drive_latched _ q).flags f hf
    · exact hdata true
    · exact hdata false
  · exact hf

theorem earlyClose_flags (selected : Bool) (x : Access) (isRead : Bool) (q : Port) {f : Flag}
    (hf : (s.port q).flags.get f = true) : ((s.earlyClose p selected x isRead).port q).flags.get f = true := by
  obtain ⟨b, g, d, h, hkept⟩ := earlyClose_setPort (s := s) (p := p) selected x isRead
  rw [h, State.port_setPort_eq]
  split
  · next hqp => exact hkept f (hqp ▸ hf)
  · exact hf

/-- A command that is no cycle, no reset and no release of a port's pin. -/
def ofTheBlocks : Instr → Bool
  | .enterRunning | .tick _ | .claimExpiry _ | .dueExpiry _ _ | .quietWindowExpiry _ | .readExpiry _ | .holdLimitExpiry
  | .busWaitLimitExpiry | .localTake | .referencePhaseEnd _ | .spanOverflow | .sensingPhaseEnd _ | .cycleCounterOverflow
  | .divisionEnd | .completion _ | .trigger _ | .read _ | .attemptStart _ | .stop | .lossOfArbitration _ | .backoffEnd _
  | .startCondition | .stopCondition | .resetNRelease _ | .halfBitPeriodEnd | .xclSampledHigh _
  | .xclPulledLowByAnotherDevice | .busLineLow => true
  | _ => false

theorem exec_served {i : Instr} (hi : ofTheBlocks i = true) (h : exec i s = .next t) : ServedAll s t := by
  cases i <;> cases h <;> first | contradiction | skip
  case tick => exact tickEvent_served _
  case claimExpiry => exact takeClaimExpiry_served _
  case dueExpiry => exact takeDueExpiry_served _
  case quietWindowExpiry => exact takeQuietExpiry_served
  case completion => exact complete_served (fun _ => trivial) _
  all_goals exact .of_port fun q => by cases q <;> simp [State.port]

/-- Settles O15: of the commands, only reads of the event record and resets clear a flag, and only DATA reads and resets
change the buffer. -/
theorem flagsAndReadBufferAreKept : Obligations.FlagsAndReadBufferAreKept := by
  intro i s t p h
  match hblocks : ofTheBlocks i with
  | true =>
    have hlatched := (exec_served hblocks h).latched p
    exact ⟨fun f hf _ => hlatched.flags f hf, fun _ => hlatched.buffer⟩
  | false =>
    have hread (q : Port) (selected : Bool) (x : Access) (h : q ≠ p) :
        Latched (s.port p) ((s.readCycle q selected x).port p) := .of_eq (readCycle_beside h.symm _ _)
    cases i <;> cases h <;> first | contradiction | skip
    case convert | watch | cancel | claim | release | configure | quiet | commitBadKind | acknowledgement | stagingWrite =>
      exact ⟨fun f hf _ => (dataWrite_latched _ _ p).flags f hf, fun _ => (dataWrite_latched _ _ p).buffer⟩
    case controlWrite q selected w =>
      exact ⟨fun f hf hc => (controlWrite_latched hc _).flags f hf, fun hc => (controlWrite_latched hc _).buffer⟩
    case resetAction q selected w =>
      exact ⟨fun f hf hc => (controlWrite_latched (.inl hc) _).flags f hf, fun hc => (controlWrite_latched (.inl hc) _).buffer⟩
    case pointerWrite =>
      exact ⟨fun f hf _ => (pointerWrite_latched _ _ p).flags f hf, fun _ => (pointerWrite_latched _ _ p).buffer⟩
    case snapshot q selected x =>
      have hregister (hx : x = .control ∨ x = .pointer) :=
        readCycle_control_or_pointer_latched (s := s) (p := q) hx selected p
      refine ⟨fun f hf hc => ?_, fun hc => ?_⟩
      · by_cases hq : q = p
        · subst hq
          rcases hc with hc | hc | hc | hc
          · exact absurd rfl hc
          · exact (hregister (.inl hc)).flags f hf
          · exact (hregister (.inr hc)).flags f hf
          · exact readCycle_flags hc selected x q hf
        · exact (hread q selected x hq).flags f hf
      · rcases hc with hc | hc | hc
        · exact (hread q selected x hc).buffer
        · exact (hregister (.inl hc)).buffer
        · exact (hregister (.inr hc)).buffer
    case eventRecordRead c =>
      refine ⟨fun f hf hc => ?_, fun hc => (hread c.port _ _ hc).buffer⟩
      by_cases hq : c.port = p
      · exact readCycle_flags (by rw [hq]; exact hc.resolve_left (Classical.not_not.2 hq)) _ _ p hf
      · exact (hread c.port _ _ hq).flags f hf
    case earlyStrobe q selected x isRead =>
      exact ⟨fun f hf _ => earlyClose_flags selected x isRead p hf,
        fun hc => congrArg PortState.buffer (earlyClose_beside (Ne.symm hc) selected x isRead)⟩
    case portReset q =>
      have hbeside (hc : q ≠ p) : Latched (s.port p) ((s.resetPort q .low).port p) :=
        .of_eq (resetPort_beside hc.symm _)
      exact ⟨fun f hf hc => (hbeside hc).flags f hf, fun hc => (hbeside hc).buffer⟩
    case portResetRelease q =>
      have hreleased : Latched (s.port p) ((s.releasePort q).port p) := by
        refine latched_setPort ?_ p
        exact ⟨rfl, fun _ => id⟩
      exact ⟨fun f hf _ => hreleased.flags f hf, fun _ => hreleased.buffer⟩
    case deviceReset => exact ⟨fun _ _ hc => hc.elim, fun hc => hc.elim⟩

end Latches

end Sys2Proof.HostSide

/-! What each cycle of a host port does: the window map, writes, reads, the event record, early closes, and the pointers. -/

namespace Sys2Proof.HostSide

open Sys2Proof.Machine Sys2Proof.Statement Sys2Proof.Claims Sys2Proof.Requests Sys2Proof.Invariants

section WindowMap

variable {a : BitVec 9}

theorem windowTarget_staging {i : Nat} (h : windowTarget a = .staging i) : 0x010 ≤ a.toNat ∧ a.toNat ≤ 0x018 := by
  unfold windowTarget at h
  grind (splits := 20)

theorem windowTarget_ackWord (h : windowTarget a = .ackWord) : a.toNat = 0x02F := by
  unfold windowTarget at h
  grind (splits := 20)

theorem windowTarget_unused (h : (0x008 ≤ a.toNat ∧ a.toNat ≤ 0x00F) ∨ (0x019 ≤ a.toNat ∧ a.toNat ≤ 0x01F)
    ∨ (0x030 ≤ a.toNat ∧ a.toNat ≤ 0x03F) ∨ (0x150 ≤ a.toNat ∧ a.toNat ≤ 0x17F) ∨ 0x1C8 ≤ a.toNat) :
    windowTarget a = .unused := by
  unfold windowTarget
  grind (splits := 20)

end WindowMap

section Writes

variable {s : State} {p : Port} {c : DataCycle} {w : Word}

theorem storeAt_staging {a : BitVec 9} {k : Nat} (h : windowTarget a = .staging (k + 1)) :
    s.storeAt p a w = s.setPort p { s.port p with staging := (s.port p).staging.store (k + 1) w } := by
  rw [State.storeAt, h]
  exact if_neg k.succ_ne_zero

theorem storeAt_command {a : BitVec 9} (h : windowTarget a = .staging 0) :
    s.storeAt p a w = (s.setPort p { s.port p with staging := (s.port p).staging.store 0 w }).commit p := by
  rw [State.storeAt, h]
  exact if_pos rfl

theorem storeAt_ackWord {a : BitVec 9} (h : windowTarget a = .ackWord) : s.storeAt p a w = s.acknowledge p w := by
  rw [State.storeAt, h]

theorem storeAt_elsewhere {a : BitVec 9} (h : ∀ i, windowTarget a ≠ .staging i) (h' : windowTarget a ≠ .ackWord) :
    s.storeAt p a w = s := by
  unfold State.storeAt
  split
  · next i hi => exact absurd hi (h i)
  · next hi => exact absurd hi h'
  · rfl
  · rfl

/-- A DATA write that opens, with what it stores named. -/
theorem exec_stagingWrite_stores (hc : c.selected = true) (ho : Open s c.port) {a : BitVec 9} {t : State}
    (ha : (s.port c.port).writePtr.toNat = a.toNat) (ht : s.storeAt c.port a w = t) :
    exec (.stagingWrite c w) s = .next (t.setPort c.port (afterWrite (t.port c.port) c.advance)) := by
  have hw := dataWrite_of_Open s c w hc ho
  rw [BitVec.eq_of_toNat_eq ha, ht] at hw
  exact congrArg Host.Outcome.next hw

/-- Settles O10. -/
theorem dataWriteReachesTheWindow : Obligations.DataWriteReachesTheWindow := by
  intro c w s hc ho x a done stored
  have hword (b : BitVec 9) (k : Nat) (hb : windowTarget b = .staging (k + 1)) (ha : a = b.toNat) :
      exec (.stagingWrite c w) s = done (stored (x.staging.store (k + 1) w)) :=
    exec_stagingWrite_stores hc ho ha (storeAt_staging hb)
  refine ⟨fun ha => ?_, hword 0x011 0 rfl, hword 0x012 1 rfl, hword 0x013 2 rfl, hword 0x014 3 rfl, hword 0x015 4 rfl,
    hword 0x016 5 rfl, hword 0x017 6 rfl, hword 0x018 7 rfl, fun ha => ?_, fun ha => ?_, rfl, rfl, rfl, rfl, rfl, rfl, rfl,
    rfl, rfl⟩
  · exact exec_stagingWrite_stores (a := 0x010) hc ho ha (storeAt_command rfl)
  · exact exec_stagingWrite_stores (a := 0x02F) hc ho ha (storeAt_ackWord rfl)
  · refine exec_stagingWrite_stores hc ho rfl (storeAt_elsewhere (fun i hi => ?_) fun hi => ?_)
    · have hrange : 0x010 ≤ a ∧ a ≤ 0x018 := windowTarget_staging hi
      omega
    · have hack : a = 0x02F := windowTarget_ackWord hi
      omega

end Writes

section Reads

variable {s : State} {p : Port} {advance : Bool}

theorem exec_snapshot_data (ho : Open s p) :
    exec (.snapshot p true (if advance then .dataAdvance else .data)) s = .next (s.dataRead p advance) := by
  refine congrArg Host.Outcome.next ((if_pos (opens_of_Open ho)).trans ?_)
  cases advance <;> rfl

theorem wordAt_record {a : BitVec 9} {name : RecordName} {k : Nat} (h : windowTarget a = .record name k) {b : Snapshot}
    (hb : (s.port p).buffer = some b) : s.wordAt p a = b.words.getD k 0 := by
  rw [State.wordAt, h]
  simp only [hb]

theorem clearDriven_elsewhere {a : BitVec 9} (h : windowTarget a ≠ .record .event 0) (w : Word) :
    s.clearDriven p a w = s := if_neg h

/-- A read that takes a snapshot of a record other than the event record. -/
theorem dataRead_taken {name : RecordName} {k : Nat} (h : windowTarget (s.port p).readPtr = .record name k)
    (hname : name ≠ .event)
    (hb : k = 0 ∨ (s.port p).buffer = none ∨ ∃ b, (s.port p).buffer = some b ∧ b.record ≠ name) :
    s.dataRead p advance = s.setPort p (afterRead
      { s.port p with buffer := some { record := name, words := s.recordWords p name } } advance
      ((s.recordWords p name).getD k 0)) := by
  have hword := wordAt_record (s := s.takeSnapshot p name) (p := p) h
    (b := { record := name, words := s.recordWords p name }) (by simp [State.takeSnapshot])
  have hevent : windowTarget (s.port p).readPtr ≠ .record .event 0 := fun he => by
    rw [h] at he
    injection he with hn
    exact hname hn
  rw [dataRead_eq]
  dsimp only
  rw [snapshotFor_taken s p _ name k h hb, hword, clearDriven_elsewhere hevent]
  simp [State.takeSnapshot]

/-- A read that takes no snapshot and clears nothing. -/
theorem dataRead_kept
    (hk : ∀ name k, windowTarget (s.port p).readPtr = .record name k →
      k ≠ 0 ∧ ∃ b, (s.port p).buffer = some b ∧ b.record = name) :
    s.dataRead p advance = s.setPort p (afterRead (s.port p) advance (s.wordAt p (s.port p).readPtr)) := by
  have hevent : windowTarget (s.port p).readPtr ≠ .record .event 0 := fun he => (hk _ _ he).1 rfl
  rw [dataRead_eq]
  dsimp only
  rw [snapshotFor_kept s p _ hk, clearDriven_elsewhere hevent]

/-- Settles O11: the map address by address, then a read by what stands at the read pointer. -/
theorem dataReadGoesThroughTheReadBuffer : Obligations.DataReadGoesThroughTheReadBuffer := by
  refine ⟨⟨by decide, rfl, rfl, rfl, rfl, by decide, by decide, rfl, by decide, by decide, by decide,
    fun a => windowTarget_unused⟩, ?_⟩
  intro p advance s ho x read fresh
  have hread : read = .next (s.dataRead p advance) := exec_snapshot_data ho
  rw [hread]
  refine ⟨fun name k hn hname => ⟨fun hb => ?_, fun b hk hb hrec => ?_⟩, fun k hk => ?_, fun h => ?_⟩
  · exact congrArg Host.Outcome.next (dataRead_taken hn hname hb)
  · have hsame (name' : RecordName) (k' : Nat) (hn' : windowTarget x.readPtr = .record name' k') :
        k' ≠ 0 ∧ ∃ b, x.buffer = some b ∧ b.record = name' := by
      rw [hn] at hn'
      injection hn' with hname' hk'
      exact ⟨hk' ▸ hk, b, hb, hrec.trans hname'⟩
    rw [dataRead_kept hsame, wordAt_record hn hb]
  · rw [dataRead_kept fun name k' hn => absurd (hk.symm.trans hn) nofun, State.wordAt, hk]
  · rcases h with h | h
    · rw [dataRead_kept fun name k' hn => absurd (h.symm.trans hn) nofun, State.wordAt, h]
    · rw [dataRead_kept fun name k' hn => absurd (h.symm.trans hn) nofun, State.wordAt, h]

/-! ## The event record -/

/-- Each flag stands at its bit, and no other bit is set. -/
theorem word_bits (f : EventFlags) :
    f.word.getLsbD 0 = f.tap ∧ f.word.getLsbD 1 = f.claimLapsed ∧ f.word.getLsbD 2 = f.earlyStrobe
      ∧ f.word.getLsbD 3 = f.ackStale ∧ f.word.getLsbD 4 = f.busFault ∧ f.word.getLsbD 5 = f.quietLapsed
      ∧ f.word.toNat < 64 := by
  obtain ⟨b0, b1, b2, b3, b4, b5⟩ := f
  dsimp only
  decide +revert

/-- A copy taken in the same cycle names every flag that is set. -/
theorem clearReturned_word (f : EventFlags) : f.clearReturned f.word =
    { tap := false, claimLapsed := false, earlyStrobe := false, ackStale := false, busFault := false
      quietLapsed := false } := by
  obtain ⟨h0, h1, h2, h3, h4, h5, -⟩ := word_bits f
  simp only [EventFlags.clearReturned, h0, h1, h2, h3, h4, h5, Bool.and_not_self]

theorem dataRead_event (h : (s.port p).readPtr = 0x004) :
    s.dataRead p advance = s.setPort p (afterRead
      { s.port p with
        buffer := some { record := .event, words := [(s.port p).flags.word] }
        flags := { tap := false, claimLapsed := false, earlyStrobe := false, ackStale := false, busFault := false
                   quietLapsed := false } } advance (s.port p).flags.word) := by
  have hevent : windowTarget (s.port p).readPtr = .record .event 0 := by
    rw [h]
    rfl
  have hword := wordAt_record (s := s.takeSnapshot p .event) (p := p) hevent
    (b := { record := .event, words := [(s.port p).flags.word] }) (by simp [State.takeSnapshot, State.recordWords])
  rw [dataRead_eq]
  dsimp only
  rw [snapshotFor_taken s p _ .event 0 hevent (.inl rfl), hword, State.clearDriven, if_pos hevent]
  simp [State.takeSnapshot, State.recordWords, clearReturned_word]

/-- Settles O12. -/
theorem eventRecordReadClearsWhatItReturns : Obligations.EventRecordReadClearsWhatItReturns := by
  intro c s hc ho hptr x f
  have hread : exec (.eventRecordRead c) s = .next (s.dataRead c.port c.advance) := by
    refine congrArg Host.Outcome.next ((if_pos (hc ▸ opens_of_Open ho)).trans ?_)
    cases c.advance <;> rfl
  obtain ⟨h0, h1, h2, h3, h4, h5, hlt⟩ := word_bits f
  exact ⟨f.word, by rw [hread, dataRead_event hptr], by rw [hread, exec_snapshot_data ho], h0, h1, h2, h3, h4, h5, hlt⟩

end Reads

section EarlyCloses

variable {s : State} {p : Port}

theorem raise_drive (ho : Open s p) {x : PortState} (hx : x.rstN = (s.port p).rstN) (w : Option Word) (f : Flag) :
    ((s.setPort p x).drive p w).raise p f = s.setPort p { x with flags := x.flags.raise f, dataOut := w } := by
  have hheld : ((s.setPort p x).drive p w).held p = false := by
    rw [held_eq_false_iff_Open]
    exact ⟨by simp [State.drive, ho.1], by simp [State.drive, hx, ho.2]⟩
  rw [State.raise, hheld]
  simp [State.drive]

/-- An early close after the snapshot it may have taken. -/
theorem exec_earlyStrobe_eq (ho : Open s p) (x : Access) (isRead : Bool) {y : PortState}
    (hy : (if isRead && isData x then s.snapshotFor p (s.port p).readPtr else s) = s.setPort p y)
    (hr : y.rstN = (s.port p).rstN) :
    exec (.earlyStrobe p true x isRead) s = .next (s.setPort p { y with
      flags := { y.flags with earlyStrobe := true }, dataOut := if isRead then some 0xFFFF else none }) := by
  refine congrArg Host.Outcome.next ((if_pos (opens_of_Open ho)).trans ?_)
  rw [hy, raise_drive ho hr]
  rfl

/-- Settles O13. -/
theorem earlyStrobeDiscardsTheCycle : Obligations.EarlyStrobeDiscardsTheCycle := by
  intro p access s ho x early
  have hsame : s = s.setPort p (s.port p) := (State.setPort_port s p).symm
  refine ⟨exec_earlyStrobe_eq ho access false hsame rfl, fun h => exec_earlyStrobe_eq ho access true ?_ rfl, fun h => ?_⟩
  · rcases h with rfl | rfl <;> exact hsame
  have hdata : (true && isData access) = true := by rcases h with rfl | rfl <;> rfl
  refine ⟨fun name k hn hb => exec_earlyStrobe_eq ho access true (y := { x with
    buffer := some { record := name, words := s.recordWords p name } }) ?_ rfl,
    fun hk => exec_earlyStrobe_eq ho access true ?_ rfl⟩
  · rw [if_pos hdata, snapshotFor_taken s p _ name k hn hb]
    rfl
  · rw [if_pos hdata, snapshotFor_kept s p _ hk]
    exact hsame

end EarlyCloses

end Sys2Proof.HostSide

/-! The pointers of a port under its cycles and resets, and the output pins. -/

namespace Sys2Proof.HostSide

open Sys2Proof.Machine Sys2Proof.Statement Sys2Proof.Claims Sys2Proof.Requests Sys2Proof.Invariants

section Pointers

variable {s : State} {p : Port}

theorem exec_pointerWrite_eq (ho : Open s p) (w : Word) :
    exec (.pointerWrite p true w) s = .next (s.setPort p { (s.port p).writePointer w with dataOut := none }) := by
  refine congrArg Host.Outcome.next ((if_pos (opens_of_Open ho)).trans ?_)
  simp [State.drive]

theorem writePointer_linked {x : PortState} (h : x.control.getLsbD 0 = false) (w : Word) :
    x.writePointer w = { x with readPtr := w.setWidth 9, writePtr := w.setWidth 9 } :=
  if_neg (show ¬ pointerSplit x.control = true from Bool.eq_false_iff.1 h)

theorem writePointer_split {x : PortState} (h : ¬ x.control.getLsbD 0 = false) (w : Word) :
    x.writePointer w =
      if x.control.getLsbD 1 = true then { x with writePtr := w.setWidth 9 } else { x with readPtr := w.setWidth 9 } :=
  if_pos (show pointerSplit x.control = true from eq_true_of_ne_false h)

theorem exec_snapshot_pointer (ho : Open s p) :
    exec (.snapshot p true .pointer) s = .next (s.setPort p { s.port p with dataOut := some (s.port p).pointerWord }) :=
  congrArg Host.Outcome.next (if_pos (opens_of_Open ho))

theorem pointerWord_eq (x : PortState) : x.pointerWord =
    if x.control.getLsbD 0 = true ∧ x.control.getLsbD 1 = true then x.writePtr.setWidth 16 else x.readPtr.setWidth 16 := by
  simp only [PortState.pointerWord, Bool.and_eq_true]
  rfl

/-- What a DATA write sets off leaves the pointers and the pointer mode, so that the advance alone moves them. -/
theorem dataWrite_pointers (ho : Open s p) (advance : Bool) (w : Word) :
    let x := s.port p
    let y := (s.dataWrite ⟨p, true, advance⟩ w).port p
    y.readPtr = (if advance = true ∧ x.control.getLsbD 0 = false then x.readPtr + 1 else x.readPtr)
      ∧ y.writePtr = (if advance = true then x.writePtr + 1 else x.writePtr) := by
  have hstored := (storeAt_served (P := fun _ => True) (s := s) (p := p) trivial (s.port p).writePtr w
    (.inr fun _ => trivial)).kept p
  rw [dataWrite_of_Open s ⟨p, true, advance⟩ w rfl ho]
  simp only [State.port_setPort, afterWrite, hstored.readPtr, hstored.writePtr, hstored.control, and_self]

theorem dataRead_pointers (advance : Bool) :
    let x := s.port p
    let y := (s.dataRead p advance).port p
    y.readPtr = (if advance = true then x.readPtr + 1 else x.readPtr)
      ∧ y.writePtr = (if advance = true ∧ x.control.getLsbD 0 = false then x.writePtr + 1 else x.writePtr) := by
  obtain ⟨b, f, w, h, -⟩ := dataRead_setPort (s := s) (p := p) advance
  rw [h]
  simp only [State.port_setPort, afterRead, and_self]

/-- Settles O8. -/
theorem pointersFollowTheirMode : Obligations.PointersFollowTheirMode := by
  intro p s ho x linked selectsWrite
  refine ⟨fun w => ⟨fun hl => ?_, fun hl hw => ?_, fun hl hw => ?_⟩, ?_, fun w hw => ?_, fun advance w => ?_,
    fun advance => ?_, ?_, fun cause => ?_⟩
  · rw [exec_pointerWrite_eq ho, writePointer_linked hl]
  · rw [exec_pointerWrite_eq ho, writePointer_split hl, if_pos hw]
  · rw [exec_pointerWrite_eq ho, writePointer_split hl, if_neg hw]
  · rw [exec_snapshot_pointer ho, pointerWord_eq]
  · exact ⟨_, ControlWord.exec_controlWrite_stores ho hw, by rw [State.port_setPort], by rw [State.port_setPort]⟩
  · exact ⟨_, rfl, dataWrite_pointers ho advance w⟩
  · exact ⟨_, exec_snapshot_data ho, dataRead_pointers advance⟩
  · exact ⟨_, rfl, by rw [resetPort_port]; rfl, by rw [resetPort_port]; rfl, by rw [resetPort_port]; rfl⟩
  · exact ⟨_, rfl, by rw [resetDevice_port]; rfl, by rw [resetDevice_port]; rfl, by rw [resetDevice_port]; rfl⟩

end Pointers

section Pins

variable {s : State} {p : Port}

theorem attention_iff : s.attention p = true ↔
    Open s p ∧ ((∃ f, (s.port p).flags.get f = true ∧ flagEnabled (s.port p).control f = true)
      ∨ ((s.port p).control.getLsbD 8 = true ∧ (s.port p).queue ≠ [])) := by
  have hany : ([Flag.tap, .claimLapsed, .earlyStrobe, .ackStale, .busFault, .quietLapsed].any fun f =>
      (s.port p).flags.get f && flagEnabled (s.port p).control f) = true ↔
      ∃ f, (s.port p).flags.get f = true ∧ flagEnabled (s.port p).control f = true := by
    rw [List.any_eq_true]
    refine ⟨fun ⟨f, _, h⟩ => ⟨f, Bool.and_eq_true_iff.1 h⟩, fun ⟨f, h⟩ => ⟨f, ?_, Bool.and_eq_true_iff.2 h⟩⟩
    cases f <;> simp
  rw [State.attention, Bool.and_eq_true, Bool.not_eq_true', held_eq_false_iff_Open, Bool.or_eq_true, hany]
  simp [queueEnabled]

theorem exists_flag_iff {P : Flag → Prop} : (∃ f, P f) ↔
    P .tap ∨ P .claimLapsed ∨ P .earlyStrobe ∨ P .ackStale ∨ P .busFault ∨ P .quietLapsed := by
  constructor
  · rintro ⟨f, h⟩
    cases f <;> simp [h]
  · rintro (h | h | h | h | h | h) <;> exact ⟨_, h⟩

theorem oscillator_eq_none_iff : s.oscillator = .none ↔ s.converter.state.counting = false := by
  unfold State.oscillator
  cases s.converter.state <;> simp [ConverterState.counting]

/-- Settles O14: the pins by cases over the converter's and the controller's states. -/
theorem outputPinsFollowTheState : Obligations.OutputPinsFollowTheState := by
  intro s
  refine ⟨fun p => ?_, ?_, fun k => ?_, oscillator_eq_none_iff, fun h => ?_, fun h => ?_, ?_⟩
  · dsimp only
    rw [attention_iff, exists_flag_iff, or_assoc, or_assoc, or_assoc, or_assoc, or_assoc]
    rfl
  · unfold State.oscillator
    cases s.converter.state <;> simp
  · unfold State.oscillator
    cases s.converter.state <;> simp
  · rw [State.oscmon, oscillator_eq_none_iff.1 h]
    rfl
  · exact if_pos (eq_true_of_ne_false ((not_congr oscillator_eq_none_iff).1 h))
  · have hlast : (!s.bus.lastReceived) = decide (s.bus.received.length < s.bus.carried.readCount) := by
      rw [BusController.lastReceived, ← decide_not, decide_eq_decide, Nat.not_le]
    unfold BusController.xclPulled BusController.xdaPulled
    cases s.bus.control with
    | idle | waitFree | start | backoff => rfl
    | sendByte y i half => cases half <;> rfl
    | ackIn y half level => cases half <;> rfl
    | recvByte i half bits => cases half <;> rfl
    | ackOut half => cases half <;> exact Prod.ext rfl hlast
    | restart step =>
      cases step with
      | clocked half => cases half <;> rfl
      | pulled => rfl
    | stop place result =>
      cases place with
      | clocked half => cases half <;> rfl
      | released | overdue => rfl

end Pins

end Sys2Proof.HostSide

/-! The words of the window's records: fields placed side by side add up with their weights, and a field is read back from
that sum. -/

namespace Sys2Proof.Words

open Sys2Proof.Machine Sys2Proof.Statement Sys2Proof.Claims

section Fields

/-! ## Placing and reading fields -/

theorem field_toNat {lo v : Nat} (h : v * 2 ^ lo < 2 ^ 16) : (field lo v).toNat = 2 ^ lo * v := by
  rw [field, BitVec.toNat_ofNat, Nat.mod_eq_of_lt h, Nat.mul_comm]

theorem flagBit_eq (lo : Nat) (b : Bool) : flagBit lo b = field lo b.toNat := by
  cases b
  · simp [flagBit, field]
  · rfl

/-- A field beside lower ones adds to them with its weight. -/
theorem beside {x : Word} {lo v n : Nat} (hx : x.toNat = n) (hn : n < 2 ^ lo) (h : v * 2 ^ lo < 2 ^ 16) :
    (x ||| field lo v).toNat = n + 2 ^ lo * v := by
  subst hx
  rw [BitVec.toNat_or, field_toNat h, Nat.or_comm, ← Nat.two_pow_add_eq_or_of_lt hn, Nat.add_comm]

theorem getLsbD_eq (w : Word) (i : Nat) : w.getLsbD i = decide (w.toNat / 2 ^ i % 2 = 1) :=
  Nat.testBit_eq_decide_div_mod_eq

theorem bit_eq {w : Word} {i : Nat} {b : Bool} (h : w.toNat / 2 ^ i % 2 = b.toNat) : w.getLsbD i = b := by
  rw [getLsbD_eq, h]
  cases b <;> rfl

theorem extract_toNat (w : Word) (i n : Nat) : (w.extractLsb' i n).toNat = w.toNat / 2 ^ i % 2 ^ n := by
  rw [BitVec.extractLsb'_toNat, Nat.shiftRight_eq_div_pow]

theorem extract_eq {w : Word} {i n : Nat} {x : BitVec n} (h : w.toNat / 2 ^ i % 2 ^ n = x.toNat) :
    w.extractLsb' i n = x := BitVec.eq_of_toNat_eq ((extract_toNat w i n).trans h)

/-- A value of up to 16 bits alone in its word. -/
theorem field_zero_eq {n : Nat} (x : BitVec n) : field 0 x.toNat = x.setWidth 16 := by
  refine BitVec.eq_of_toNat_eq ?_
  rw [field, BitVec.toNat_ofNat, BitVec.toNat_setWidth, Nat.pow_zero, Nat.mul_one]

theorem lowWord_eq (t : Stamp) : lowWord t = t.setWidth 16 := rfl

theorem highWord_eq (t : Stamp) : highWord t = t.extractLsb' 16 16 := by
  refine BitVec.eq_of_toNat_eq ?_
  rw [highWord, BitVec.toNat_setWidth, BitVec.toNat_ushiftRight, BitVec.extractLsb'_toNat]

theorem bool_lt (b : Bool) : b.toNat < 2 := Bool.toNat_lt b

end Fields

section Codes

theorem status_code_lt (x : Status) : x.code < 16 := by cases x <;> decide

theorem submitCode_code_lt (x : SubmitCode) : x.code < 256 := by cases x <;> decide

theorem slotState_code_lt (x : SlotState) : x.code < 4 := by cases x <;> decide

theorem disposition_code_lt (x : Disposition) : x.code < 4 := by cases x <;> decide

theorem source_code_lt (x : Source) : x.code < 4 := by cases x <;> decide

theorem requestKind_code_eq (x : RequestKind) : x.code = if x = .watch then 1 else 0 := by cases x <;> rfl

theorem holderCode_eq (p : Port) (o : Option Port) :
    holderCode p o = if o = none then 0 else if o = some p then 1 else 2 := by
  rcases o with _ | q
  · rfl
  · simp [holderCode]

end Codes

section Results

/-- The first word of a result entry's record (11.4). -/
def resultHead (e : ResultEntry) : Word :=
  flagBit 0 e.valid ||| flagBit 1 e.reserved ||| field 4 e.part.restarts.toNat ||| field 8 e.part.status.code

theorem resultHead_toNat (e : ResultEntry) : (resultHead e).toNat =
    e.valid.toNat + 2 * e.reserved.toNat + 16 * e.part.restarts.toNat + 256 * e.part.status.code := by
  have h0 := bool_lt e.valid
  have h1 := bool_lt e.reserved
  have h4 := e.part.restarts.isLt
  have h8 := status_code_lt e.part.status
  have h := beside (beside (beside (field_toNat (lo := 0) (v := e.valid.toNat) (by omega)) (lo := 1) (v := e.reserved.toNat)
    (by omega) (by omega)) (lo := 4) (v := e.part.restarts.toNat) (by omega) (by omega)) (lo := 8)
    (v := e.part.status.code) (by omega) (by omega)
  rw [resultHead, flagBit_eq, flagBit_eq, h]
  omega

/-- The words of a result entry after the first. -/
theorem resultWords_eq (e : ResultEntry) : resultWords e =
    [resultHead e, e.part.value, e.part.sequence, e.part.generation.setWidth 16, e.part.startStamp.setWidth 16,
      e.part.startStamp.extractLsb' 16 16, e.part.endStamp.setWidth 16, e.part.endStamp.extractLsb' 16 16] := by
  simp only [resultWords, resultHead, field_zero_eq, lowWord_eq, highWord_eq]

theorem result_fields (e : ResultEntry) :
    (resultHead e).getLsbD 0 = e.valid ∧ (resultHead e).getLsbD 1 = e.reserved
      ∧ (resultHead e).extractLsb' 2 2 = 0 ∧ (resultHead e).extractLsb' 4 4 = e.part.restarts
      ∧ ((resultHead e).extractLsb' 8 8).toNat = e.part.status.code := by
  have hsum := resultHead_toNat e
  have h0 := bool_lt e.valid
  have h1 := bool_lt e.reserved
  have h4 := e.part.restarts.isLt
  have h8 := status_code_lt e.part.status
  refine ⟨bit_eq ?_, bit_eq ?_, extract_eq ?_, extract_eq ?_, ?_⟩
  · omega
  · omega
  · rw [show (0 : BitVec 2).toNat = 0 from rfl]
    omega
  · omega
  · rw [extract_toNat]
    omega

end Results

section Channels

/-- The value of the span clock bit of a channel record. -/
def clockBit (f : KindFields) : Nat :=
  match f with
  | .localKind _ _ clock => spanClockBit clock
  | .remoteKind _ _ _ => 0

theorem clockBit_lt (f : KindFields) : clockBit f < 2 := by
  rcases f with ⟨_, _, _ | _⟩ | _
  · exact Nat.zero_lt_two
  · exact Nat.one_lt_two
  · exact Nat.zero_lt_two

theorem kindWords_clock (f : KindFields) : (kindWords f).1 = field 3 (clockBit f) := by
  rcases f with _ | _
  · rfl
  · simp [kindWords, clockBit, field]

/-- The first word of a channel's record as port `p` sees it (11.4). -/
def channelHead (s : State) (p : Port) (c : Channel) : Word :=
  flagBit 0 (!isLocal c) ||| flagBit 1 (s.channel c).enable ||| flagBit 2 (s.channel c).round
    ||| (kindWords (s.channel c).fields).1 ||| flagBit 4 (s.result c).reserved
    ||| field 5 (holderCode p (s.channel c).holder) ||| field 8 (s.channel c).generation.toNat

theorem holderCode_lt (p : Port) (o : Option Port) : holderCode p o < 3 := by
  rw [holderCode_eq]
  split
  · omega
  · split <;> omega

theorem channelHead_toNat (s : State) (p : Port) (c : Channel) : (channelHead s p c).toNat =
    (!isLocal c).toNat + 2 * (s.channel c).enable.toNat + 4 * (s.channel c).round.toNat
      + 8 * clockBit (s.channel c).fields + 16 * (s.result c).reserved.toNat + 32 * holderCode p (s.channel c).holder
      + 256 * (s.channel c).generation.toNat := by
  have h0 := bool_lt (!isLocal c)
  have h1 := bool_lt (s.channel c).enable
  have h2 := bool_lt (s.channel c).round
  have h3 := clockBit_lt (s.channel c).fields
  have h4 := bool_lt (s.result c).reserved
  have h5 := holderCode_lt p (s.channel c).holder
  have h8 := (s.channel c).generation.isLt
  have hkind := beside (beside (beside (field_toNat (lo := 0) (v := (!isLocal c).toNat) (by omega)) (lo := 1)
    (v := (s.channel c).enable.toNat) (by omega) (by omega)) (lo := 2) (v := (s.channel c).round.toNat) (by omega)
    (by omega)) (lo := 3) (v := clockBit (s.channel c).fields) (by omega) (by omega)
  have h := beside (beside (beside hkind (lo := 4) (v := (s.result c).reserved.toNat) (by omega) (by omega)) (lo := 5)
    (v := holderCode p (s.channel c).holder) (by omega) (by omega)) (lo := 8) (v := (s.channel c).generation.toNat)
    (by omega) (by omega)
  rw [channelHead, flagBit_eq, flagBit_eq, flagBit_eq, flagBit_eq, kindWords_clock, h]
  omega

theorem channelWords_eq (s : State) (p : Port) (c : Channel) : s.channelWords p c =
    [channelHead s p c] ++ (kindWords (s.channel c).fields).2
      ++ [(s.channel c).expiry.setWidth 16, (s.channel c).expiry.extractLsb' 16 16, 0, 0] := by
  rw [State.channelWords, lowWord_eq, highWord_eq]
  rfl

theorem channel_fields (s : State) (p : Port) (c : Channel) :
    let w := channelHead s p c
    w.getLsbD 0 = !isLocal c ∧ w.getLsbD 1 = (s.channel c).enable ∧ w.getLsbD 2 = (s.channel c).round
      ∧ w.getLsbD 3 = decide (clockBit (s.channel c).fields = 1) ∧ w.getLsbD 4 = (s.result c).reserved
      ∧ w.getLsbD 7 = false ∧ (w.extractLsb' 5 2).toNat = holderCode p (s.channel c).holder
      ∧ w.extractLsb' 8 8 = (s.channel c).generation := by
  have hsum := channelHead_toNat s p c
  have h0 := bool_lt (!isLocal c)
  have h1 := bool_lt (s.channel c).enable
  have h2 := bool_lt (s.channel c).round
  have h3 := clockBit_lt (s.channel c).fields
  have h4 := bool_lt (s.result c).reserved
  have h5 := holderCode_lt p (s.channel c).holder
  have h8 := (s.channel c).generation.isLt
  refine ⟨bit_eq ?_, bit_eq ?_, bit_eq ?_, ?_, bit_eq ?_, bit_eq ?_, ?_, extract_eq ?_⟩
  · omega
  · omega
  · omega
  · rw [getLsbD_eq, decide_eq_decide]
    omega
  · omega
  · rw [Bool.toNat_false]
    omega
  · rw [extract_toNat]
    omega
  · omega

end Channels

section Slots

theorem slotWords_eq (x : Slot) : slotWords x =
    [field 0 x.state.code ||| field 4 x.kind.code, field 0 x.channel.val ||| field 8 x.missed.toNat, x.tag,
      x.nextDue.setWidth 16, x.joinStamp.setWidth 16, x.joinStamp.extractLsb' 16 16] := by
  rw [slotWords, lowWord_eq, lowWord_eq, highWord_eq]

theorem slot_state_toNat (x : Slot) :
    (field 0 x.state.code ||| field 4 x.kind.code).toNat = x.state.code + 16 * (if x.kind = .watch then 1 else 0) := by
  have h0 := slotState_code_lt x.state
  have h4 : x.kind.code < 2 := by cases x.kind <;> decide
  rw [beside (field_toNat (lo := 0) (v := x.state.code) (by omega)) (by omega) (by omega), requestKind_code_eq]
  omega

theorem slot_channel_toNat (x : Slot) :
    (field 0 x.channel.val ||| field 8 x.missed.toNat).toNat = x.channel.val + 256 * x.missed.toNat := by
  have h0 := x.channel.isLt
  have h8 := x.missed.isLt
  rw [beside (field_toNat (lo := 0) (v := x.channel.val) (by omega)) (by omega) (by omega)]
  omega

end Slots


section Head

/-- The first word of a response record (11.4). -/
def responseHead (r : ResponseRecord) : Word :=
  field 0 r.disposition.code ||| flagBit 2 r.final ||| field 3 r.source.code ||| field 5 r.kind.code
    ||| field 8 r.slot.val ||| field 12 r.channel.val

/-- The words of a response record's result part (11.4). -/
def partWords (part : Option ResultPart) : List Word :=
  match part with
  | none => List.replicate 8 0
  | some q =>
    [q.value, field 0 q.status.code ||| field 8 q.restarts.toNat, q.sequence, q.generation.setWidth 16,
      q.startStamp.setWidth 16, q.startStamp.extractLsb' 16 16, q.endStamp.setWidth 16, q.endStamp.extractLsb' 16 16]

theorem responseHeadWords_eq (r : ResponseRecord) : responseHeadWords (some r) =
    [responseHead r, r.tag, r.version, r.coalesced, r.missed.setWidth 16] ++ partWords r.part ++ [0, 0] := by
  have hpart : (match r.part with
      | none => List.replicate 8 0
      | some q =>
        [q.value, field 0 q.status.code ||| field 8 q.restarts.toNat, q.sequence, field 0 q.generation.toNat,
          lowWord q.startStamp, highWord q.startStamp, lowWord q.endStamp, highWord q.endStamp]) = partWords r.part := by
    cases r.part
    · rfl
    · simp only [partWords, field_zero_eq, lowWord_eq, highWord_eq]
  rw [responseHeadWords, field_zero_eq, ← hpart]
  rfl

theorem responseHead_toNat (r : ResponseRecord) : (responseHead r).toNat =
    r.disposition.code + 4 * (if r.final = true then 1 else 0) + 8 * r.source.code
      + 32 * (if r.kind = .watch then 1 else 0) + 256 * r.slot.val + 4096 * r.channel.val := by
  have h0 := disposition_code_lt r.disposition
  have h2 := bool_lt r.final
  have h3 := source_code_lt r.source
  have h5 : r.kind.code < 2 := by cases r.kind <;> decide
  have h8 := r.slot.isLt
  have h12 := r.channel.isLt
  have hfinal : (if r.final = true then 1 else 0) = r.final.toNat := by cases r.final <;> rfl
  have hkind := beside (beside (beside (field_toNat (lo := 0) (v := r.disposition.code) (by omega)) (lo := 2)
    (v := r.final.toNat) (by omega) (by omega)) (lo := 3) (v := r.source.code) (by omega) (by omega)) (lo := 5)
    (v := r.kind.code) (by omega) (by omega)
  have h := beside (beside hkind (lo := 8) (v := r.slot.val) (by omega) (by omega)) (lo := 12) (v := r.channel.val)
    (by omega) (by omega)
  rw [responseHead, flagBit_eq, h, hfinal, ← requestKind_code_eq]
  omega

theorem partStatus_toNat (q : ResultPart) :
    (field 0 q.status.code ||| field 8 q.restarts.toNat).toNat = q.status.code + 256 * q.restarts.toNat := by
  have h0 := status_code_lt q.status
  have h8 := q.restarts.isLt
  rw [beside (field_toNat (lo := 0) (v := q.status.code) (by omega)) (by omega) (by omega)]
  omega

end Head

section Status

variable (s : State) (p : Port)

/-- The first word of the port status record (11.3). -/
def statusHead : Word :=
  flagBit 0 (decide (s.timebase.startState = .running)) ||| flagBit 1 (decide (p = .b))
    ||| flagBit 2 (s.port p).quietEnd.isSome ||| flagBit 3 s.quietActive

theorem statusHead_toNat : (statusHead s p).toNat =
    (decide (s.timebase.startState = .running)).toNat + 2 * (decide (p = .b)).toNat
      + 4 * (s.port p).quietEnd.isSome.toNat + 8 * s.quietActive.toNat := by
  have h0 := bool_lt (decide (s.timebase.startState = .running))
  have h1 := bool_lt (decide (p = .b))
  have h2 := bool_lt (s.port p).quietEnd.isSome
  have h3 := bool_lt s.quietActive
  have h := beside (beside (beside (field_toNat (lo := 0) (v := (decide (s.timebase.startState = .running)).toNat)
    (by omega)) (lo := 1) (v := (decide (p = .b)).toNat) (by omega) (by omega)) (lo := 2)
    (v := (s.port p).quietEnd.isSome.toNat) (by omega) (by omega)) (lo := 3) (v := s.quietActive.toNat) (by omega)
    (by omega)
  rw [statusHead, flagBit_eq, flagBit_eq, flagBit_eq, flagBit_eq, h]
  omega

theorem status_fields :
    let w := statusHead s p
    w.getLsbD 0 = decide (s.timebase.startState = .running) ∧ w.getLsbD 1 = decide (p = .b)
      ∧ w.getLsbD 2 = (s.port p).quietEnd.isSome ∧ w.getLsbD 3 = s.quietActive ∧ w.toNat < 16 := by
  have hsum := statusHead_toNat s p
  have h0 := bool_lt (decide (s.timebase.startState = .running))
  have h1 := bool_lt (decide (p = .b))
  have h2 := bool_lt (s.port p).quietEnd.isSome
  have h3 := bool_lt s.quietActive
  refine ⟨bit_eq ?_, bit_eq ?_, bit_eq ?_, bit_eq ?_, ?_⟩ <;> omega

theorem submit_toNat (x : PortState) :
    (field 0 x.submitCode.code ||| field 8 x.submitCount.toNat).toNat = x.submitCode.code + 256 * x.submitCount.toNat := by
  have h0 := submitCode_code_lt x.submitCode
  have h8 := x.submitCount.isLt
  rw [beside (field_toNat (lo := 0) (v := x.submitCode.code) (by omega)) (by omega) (by omega)]
  omega

/-- The value of the submit slot field (11.3). -/
def submitSlotValue (o : Option SlotNo) : Nat :=
  match o with
  | some i => i.val
  | none => 15

theorem submitSlotValue_lt (o : Option SlotNo) : submitSlotValue o < 16 := by
  rcases o with _ | i
  · exact Nat.lt_succ_self 15
  · exact Nat.lt_trans i.isLt (by decide)

theorem submitSlot_toNat (x : PortState) (h : x.queue.length ≤ 12) :
    (field 0 (submitSlotValue x.submitSlot) ||| field 8 x.queue.length).toNat =
      submitSlotValue x.submitSlot + 256 * x.queue.length := by
  have h0 := submitSlotValue_lt x.submitSlot
  rw [beside (field_toNat (lo := 0) (v := submitSlotValue x.submitSlot) (by omega)) (by omega) (by omega)]
  omega

theorem pendingOrderWords_getElem (l : List PendingEntry) {i : Nat} (hi : i < 16) :
    (pendingOrderWords l)[i]? =
      some (match l[i]? with | some e => BitVec.ofNat 16 e.channel.val | none => 0xFFFF) := by
  rw [pendingOrderWords, List.getElem?_take_of_lt hi]
  by_cases hl : i < l.length
  · rw [List.getElem?_append_left (by simpa using hl), List.getElem?_map, List.getElem?_eq_getElem hl]
    simp [field]
  · rw [List.getElem?_append_right (by simpa using hl), List.getElem?_eq_none (by omega : l.length ≤ i),
      List.getElem?_replicate_of_lt]
    rw [List.length_map]
    omega

/-- Settles O17, record by record. -/
theorem recordWordsHoldTheirFields : Obligations.RecordWordsHoldTheirFields := by
  refine ⟨fun s p => ⟨fun c => ⟨rfl, rfl⟩, fun i => rfl, rfl, rfl⟩, fun e => ⟨resultHead e, resultWords_eq e, result_fields e⟩,
    fun s p c => ?_, fun x => ⟨_, _, slotWords_eq x, slot_state_toNat x, slot_channel_toNat x⟩, fun r => ?_, rfl,
    fun s p => ⟨fun hq hl => ?_, ?_, rfl, fun hl => ⟨?_, fun i => pendingOrderWords_getElem s.pendingList⟩⟩, rfl, by decide,
    rfl, rfl, rfl⟩
  · obtain ⟨h0, h1, h2, h3, h4, h7, h5, h8⟩ := channel_fields s p c
    rw [holderCode_eq] at h5
    have hwords := channelWords_eq s p c
    rcases hf : s.channels[c].fields with ⟨input, n, clock⟩ | ⟨address, settle, limit⟩
    · have hfields : (s.channel c).fields = .localKind input n clock := hf
      rw [hfields] at hwords h3
      refine ⟨_, n, field 0 input.val, 0, hwords, h0, h1, h2, h4, h7, h5, h8, ?_, rfl, ?_, rfl⟩
      · rw [h3]
        cases clock <;> rfl
      · have hin := input.isLt
        rw [field_toNat (by omega)]
        omega
    · have hfields : (s.channel c).fields = .remoteKind address settle limit := hf
      rw [hfields] at hwords h3
      exact ⟨_, _, _, _, hwords, h0, h1, h2, h4, h7, h5, h8, h3, rfl, rfl, rfl⟩
  · refine ⟨responseHead r, partWords r.part, responseHeadWords_eq r, responseHead_toNat r, fun h => ?_, fun q h => ?_⟩
    · rw [h]
      rfl
    · exact ⟨_, by rw [h]; rfl, partStatus_toNat q⟩
  · obtain ⟨h0, h1, h2, h3, hlt⟩ := status_fields s p
    refine ⟨_, _, _, _, rfl, h0, h1, h2, h3, hlt, submit_toNat _, submitSlot_toNat _ hq, ?_⟩
    rw [field_toNat (by omega)]
    omega
  · exact congrArg (fun w => [s.timebase.tick.setWidth 16, w]) (highWord_eq _)
  · show (pendingOrderWords s.pendingList).length = 16
    simp [pendingOrderWords]

end Status

end Sys2Proof.Words

/-! Quiet windows: a window opened, replaced or removed, the onset and the end of quiet, the commit QUIET and the expiry of a
window. -/

namespace Sys2Proof.Quiet

open Sys2Proof.Machine Sys2Proof.Statement Sys2Proof.Claims Sys2Proof.Requests Sys2Proof.Responses Sys2Proof.Invariants

section Windows

variable {s : State} {p : Port}

theorem windowCleared_eq : windowCleared s p = windowGone s p := dropDeadline_eq _ _

theorem windowSet_eq (t : Stamp) : windowSet s p t = windowOpen s p t := placeDeadline_eq _ _ _

theorem quietActive_windowGone : (windowGone s p).quietActive = (s.port (peer p)).quietEnd.isSome := by
  cases p
  · rfl
  · exact Bool.or_false _

theorem closeQuiet_of_none (h : (s.port p).quietEnd = none) : s.closeQuiet p = s :=
  if_neg (by simp [h])

theorem closeQuiet_of_some (h : (s.port p).quietEnd ≠ none) : s.closeQuiet p =
    if (s.port (peer p)).quietEnd.isSome = true then windowGone s p else (windowGone s p).quietEnds := by
  refine (if_pos (Option.isSome_iff_ne_none.2 h)).trans ?_
  rw [← quietActive_windowGone, ← windowCleared_eq]
  rfl

theorem closeQuiet_of_other (h : (s.port p).quietEnd ≠ none) (h' : (s.port (peer p)).quietEnd ≠ none) :
    s.closeQuiet p = windowGone s p := by
  rw [closeQuiet_of_some h, if_pos (Option.isSome_iff_ne_none.2 h')]

/-- The last window goes and with it quiet (R62). -/
theorem closeQuiet_of_last (h : (s.port p).quietEnd ≠ none) (h' : (s.port (peer p)).quietEnd = none) :
    s.closeQuiet p = { windowGone s p with converter := unheld s.converter } := by
  have hc : (windowGone s p).converter = s.converter := by cases p <;> rfl
  rw [closeQuiet_of_some h, if_neg (by simp [h']), quietEnds_eq, hc]

theorem openQuiet_of_window (t : Stamp) (h : ¬ NoWindow s) : s.openQuiet p t = windowOpen s p t := by
  rw [← windowSet_eq]
  exact if_pos (eq_true_of_ne_false fun hq => h ((quietActive_eq_false_iff s).1 hq))

theorem openQuiet_of_noWindow (t : Stamp) (h : NoWindow s) : s.openQuiet p t = (windowOpen s p t).quietOnset := by
  rw [← windowSet_eq]
  exact if_neg (by rw [(quietActive_eq_false_iff s).2 h]; exact Bool.false_ne_true)

theorem windowOpen_converter (t : Stamp) : (windowOpen s p t).converter = s.converter := by cases p <;> rfl

theorem windowOpen_inFlight (t : Stamp) : (windowOpen s p t).inFlight = s.inFlight := by cases p <;> rfl

theorem windowOpen_pendingList (t : Stamp) : (windowOpen s p t).pendingList = s.pendingList := by cases p <;> rfl

theorem windowOpen_results (t : Stamp) : (windowOpen s p t).results = s.results := by cases p <;> rfl

end Windows

section Onset

variable {s : State}

theorem quietOnset_idle (h : s.converter.state = .idle) :
    s.quietOnset = { s with converter := { s.converter with state := .held } } := by
  rw [State.quietOnset, h]

theorem quietOnset_ratioWait {cur : Current} {j : Job} (h : s.converter.state = .ratioWait cur j) : s.quietOnset = s := by
  rw [State.quietOnset, h]

theorem discard_eq {ch : Channel} {before after : List ConversionRecord} {r : ConversionRecord}
    (h : s.inFlight = before ++ r :: after) (hr : r.channel = ch) (hb : ∀ q ∈ before, q.channel ≠ ch) :
    s.discard ch = { s with
      inFlight := before ++ after
      results := s.results.set ch { s.results[ch] with reserved := false }
      pendingList := requeued r s.pendingList } := by
  obtain ⟨hfind, herase⟩ := inFlight_of_first h hr hb
  simp only [State.discard, hfind, herase, requeue_eq_requeued]
  rfl

/-- The onset discards the conversion being counted (R61). -/
theorem quietOnset_counting {cur : Current} {before after : List ConversionRecord} {r : ConversionRecord}
    (hc : s.converter.state = .ref cur ∨ s.converter.state = .sense cur) (h : s.inFlight = before ++ r :: after)
    (hr : r.channel = cur.channel) (hb : ∀ q ∈ before, q.channel ≠ cur.channel) :
    s.quietOnset = { s with
      converter := { state := .held, cycleCounter := 0, spanCounter := 0, wave := .low }
      inFlight := before ++ after
      results := s.results.set cur.channel { s.results[cur.channel] with reserved := false }
      pendingList := requeued r s.pendingList } := by
  have hdiscard := discard_eq h hr hb
  rcases hc with hc | hc <;> rw [State.quietOnset, hc] <;> dsimp only <;> rw [hdiscard]

end Onset

section Commit

variable {s t u : State} {c : DataCycle}

theorem exec_quiet_eq (h : CommitReady s c) :
    exec (.quiet c) s = .next (concluded ((stored s c 7).decideQuiet c.port) c) :=
  congrArg Host.Outcome.next (dataWrite_decision h 7 (decideCommit_running s c 7))

theorem exec_quiet_badParam (h : CommitReady s c) (hd : 1024 < (s.port c.port).staging.paramA.toNat) :
    exec (.quiet c) s = .next (answered s c 7 .badParam none) := by
  have hrange : ¬ inRange (s.port c.port).staging.paramA 0 1024 = true := by
    rw [inRange_iff]
    omega
  rw [exec_quiet_eq h, State.decideQuiet, stored_staging, if_neg hrange, concluded_refuse]

theorem exec_quiet_removed (h : CommitReady s c) (hd : (s.port c.port).staging.paramA.toNat = 0)
    (ht : (stored s c 7).closeQuiet c.port = stored t c 7) :
    exec (.quiet c) s = .next (answered t c 7 .accepted none) := by
  have hrange : inRange (s.port c.port).staging.paramA 0 1024 = true := by
    rw [inRange_iff]
    omega
  have hzero : (s.port c.port).staging.paramA = 0 := BitVec.eq_of_toNat_eq hd
  rw [exec_quiet_eq h, State.decideQuiet, stored_staging, if_pos hrange, if_pos hzero, ht, concluded_accept_stored]

theorem exec_quiet_opened (h : CommitReady s c) (hd : 1 ≤ (s.port c.port).staging.paramA.toNat)
    (hd' : (s.port c.port).staging.paramA.toNat ≤ 1024)
    (ht : (stored s c 7).openQuiet c.port (s.timebase.tick + (s.port c.port).staging.paramA.setWidth 32) = stored t c 7) :
    exec (.quiet c) s = .next (answered t c 7 .accepted none) := by
  have hrange : inRange (s.port c.port).staging.paramA 0 1024 = true := by
    rw [inRange_iff]
    omega
  have hpos : (s.port c.port).staging.paramA ≠ 0 := fun hz => by
    rw [hz] at hd
    exact absurd hd (by decide)
  rw [exec_quiet_eq h, State.decideQuiet, stored_staging, if_pos hrange, if_neg hpos, stored_now]
  exact (congrArg (fun v => Host.Outcome.next (concluded v.accept c)) ht).trans
    (congrArg Host.Outcome.next (concluded_accept_stored 7))

/-! The command word, once stored, is not met by what a window does. -/

theorem stored_port_peer (w : Word) : (stored s c w).port (peer c.port) = s.port (peer c.port) := by simp [stored]

theorem windowGone_stored (w : Word) : windowGone (stored s c w) c.port = stored (windowGone s c.port) c w := by
  obtain ⟨_ | _, sel, adv⟩ := c <;> rfl

theorem windowOpen_stored (w : Word) (x : Stamp) :
    windowOpen (stored s c w) c.port x = stored (windowOpen s c.port x) c w := by
  obtain ⟨_ | _, sel, adv⟩ := c <;> rfl

theorem stored_quietEnd (w : Word) : ((stored s c w).port c.port).quietEnd = (s.port c.port).quietEnd := by simp

theorem noWindow_stored (w : Word) : NoWindow (stored s c w) ↔ NoWindow s := by
  obtain ⟨_ | _, sel, adv⟩ := c <;> rfl

theorem converter_stored (w : Word) (x : Converter) :
    { stored s c w with converter := x } = stored { s with converter := x } c w := by
  obtain ⟨_ | _, sel, adv⟩ := c <;> rfl

/-- Settles O29. -/
theorem quietIsDecidedAndActs : Obligations.QuietIsDecidedAndActs := by
  intro c s h x d
  refine ⟨exec_quiet_badParam h, fun hd => ⟨fun hq => ?_, fun hq hp => ?_, fun hq hp => ?_⟩, fun hd hd' hw => ?_,
    fun hd hd' hw => ⟨fun hc => ?_, fun cur j hc => ?_, fun cur before after r hc hf hr hb => ?_⟩⟩
  · exact exec_quiet_removed h hd (closeQuiet_of_none ((stored_quietEnd 7).trans hq))
  · refine exec_quiet_removed h hd ?_
    rw [closeQuiet_of_other (by rwa [stored_quietEnd]) (by rwa [stored_port_peer]), windowGone_stored]
  · refine exec_quiet_removed h hd ?_
    rw [closeQuiet_of_last (by rwa [stored_quietEnd]) (by rwa [stored_port_peer]), windowGone_stored, converter_stored,
      stored_converter]
  · refine exec_quiet_opened h hd hd' ?_
    rw [openQuiet_of_window _ (by rwa [noWindow_stored]), windowOpen_stored]
  all_goals
    refine exec_quiet_opened h hd hd' ?_
    rw [openQuiet_of_noWindow _ ((noWindow_stored 7).2 hw), windowOpen_stored]
  · rw [quietOnset_idle (by rw [stored_converter, windowOpen_converter, hc]), converter_stored, stored_converter,
      windowOpen_converter]
  · exact quietOnset_ratioWait (by rw [stored_converter, windowOpen_converter, hc])
  · rw [quietOnset_counting (by rwa [stored_converter, windowOpen_converter])
      (by rw [stored_inFlight, windowOpen_inFlight, hf]) hr hb, stored_results, stored_pendingList,
      windowOpen_pendingList]
    obtain ⟨_ | _, sel, adv⟩ := c <;> rfl

/-- Settles O30. -/
theorem quietWindowExpiryLapses : Obligations.QuietWindowExpiryLapses := by
  intro s p hd hq lapse
  have hexec : exec (.quietWindowExpiry p) s = .next (lapse (s.closeQuiet p)) := by
    refine congrArg Host.Outcome.next ((if_pos ((expiryDue_iff s _).2 hd)).trans ?_)
    rw [raise_eq_flagged]
    rfl
  exact ⟨fun hp => by rw [hexec, closeQuiet_of_other hq hp], fun hp => by rw [hexec, closeQuiet_of_last hq hp]⟩

end Commit

end Sys2Proof.Quiet

/-! The Oscillator Converter and the Ratio Unit: the take, the counting of the two phases, their ends, and the division. -/

namespace Sys2Proof.Converting

open Sys2Proof.Machine Sys2Proof.Statement Sys2Proof.Claims Sys2Proof.Requests Sys2Proof.Responses Sys2Proof.Invariants

section Takes

variable {s : State} {before after : List PendingEntry} {e : PendingEntry}

/-- The entry taken is the one nearest the head that may be taken (R48, R49). -/
theorem takeable_eq (ofLocal : Bool) (h : s.pendingList = before ++ e :: after) (hk : isLocal e.channel = ofLocal)
    (hr : s.results[e.channel].reserved = false)
    (hb : ∀ d ∈ before, isLocal d.channel ≠ ofLocal ∨ s.results[d.channel].reserved = true) :
    s.takeable ofLocal = some e := by
  have hfree : (s.result e.channel).reserved = false := hr
  rw [State.takeable, h, List.find?_append, List.find?_eq_none.2, List.find?_cons_of_pos]
  · rfl
  · simp [hk, hfree]
  · intro d hd hmay
    simp only [Bool.and_eq_true, beq_iff_eq, Bool.not_eq_true'] at hmay
    rcases hb d hd with hk' | hr'
    · exact hk' hmay.1
    · exact Bool.false_ne_true (hmay.2.symm.trans hr')

/-- The take (R50): the entry leaves the list, its record enters the In-Flight Set, its channel is reserved. -/
theorem startConversion_eq (x : Engine) (h : s.pendingList = before ++ e :: after)
    (hb : ∀ d ∈ before, d.channel ≠ e.channel) :
    s.startConversion x e = { s with
      pendingList := before ++ after
      inFlight := s.inFlight ++ [{ channel := e.channel, engine := x, waiters := e.waiters
                                   startStamp := s.timebase.tick, generation := s.channels[e.channel].generation
                                   restarts := e.restarts, outcome := none }]
      results := s.results.set e.channel { s.results[e.channel] with reserved := true } } := by
  have herase : s.pendingList.eraseP (fun x => decide (x.channel = e.channel)) = before ++ after := by
    rw [h, List.eraseP_append_right _ fun d hd => by simpa using hb d hd, List.eraseP_cons_of_pos (by simp)]
  rw [State.startConversion, herase]
  rfl

theorem cycleLoad_eq (n : Word) : cycleLoad n = BitVec.ofNat 16 (65536 - n.toNat) := by
  refine BitVec.eq_of_toNat_eq ?_
  rw [cycleLoad, BitVec.toNat_sub, BitVec.toNat_ofNat]
  simp

/-- Settles O34. -/
theorem localTakeBeginsTheReferencePhase : Obligations.LocalTakeBeginsTheReferencePhase := by
  intro s before after e input n clock hi hw hroom hl hk hr hb hne hf
  have hfields : (s.channel e.channel).fields = .localKind input n clock := hf
  have htake : s.takeable true = some e := takeable_eq true hl (decide_eq_true hk) hr fun d hd => by
    rcases hb d hd with hd | hd
    · exact .inl (by simp [isLocal, Nat.not_lt.2 hd])
    · exact .inr hd
  refine congrArg Host.Outcome.next ((if_pos ⟨hi, (quietActive_eq_false_iff s).2 hw, hroom⟩).trans ?_)
  simp only [htake, hfields, startConversion_eq .localEngine hl hne, cycleLoad_eq]
  rfl

end Takes

section HalfCycles

variable {s : State}

/-- A full cycle of the running oscillator, short of the counter's end, adds 1 (R96, R97). -/
theorem halfCycle_high_counts (hc : s.converter.state.counting = true) (hw : s.converter.wave = .high)
    (hm : s.converter.cycleCounter ≠ 0xFFFF) : s.halfCycle =
      { s with converter := { s.converter with wave := .low, cycleCounter := s.converter.cycleCounter + 1 } } := by
  rw [halfCycle_high s hc hw, State.oscillatorCycle]
  cases hstate : s.converter.state with
  | idle | held | ratioWait => exact absurd hc (by rw [hstate]; exact Bool.false_ne_true)
  | ref cur => exact if_neg hm
  | sense cur => exact if_neg hm

theorem halfCycle_twice (hc : s.converter.state.counting = true) (hw : s.converter.wave = .low)
    (hm : s.converter.cycleCounter ≠ 0xFFFF) : s.halfCycle.halfCycle =
      { s with converter := { s.converter with cycleCounter := s.converter.cycleCounter + 1 } } := by
  rw [halfCycle_low s hc hw, halfCycle_high_counts (by exact hc) rfl (by exact hm), ← hw]

theorem succ_eq_ofNat (x : Word) : x + 1 = BitVec.ofNat 16 (x.toNat + 1) := by
  refine BitVec.eq_of_toNat_eq ?_
  rw [BitVec.toNat_add, BitVec.toNat_ofNat]
  rfl

/-- `k` full cycles add `k` to the Cycle Counter (R97). -/
theorem edges_halfCycles (k : Nat) (hc : s.converter.state.counting = true) (hw : s.converter.wave = .low)
    (hm : s.converter.cycleCounter.toNat + k ≤ 65535) : s.edges (List.replicate (2 * k) .halfCycle) =
      { s with converter := { s.converter with
        cycleCounter := BitVec.ofNat 16 (s.converter.cycleCounter.toNat + k) } } := by
  induction k generalizing s with
  | zero => simp
  | succ k ih =>
    have hfull : s.converter.cycleCounter ≠ 0xFFFF := fun hx => by
      rw [hx, show (0xFFFF : Word).toNat = 65535 from rfl] at hm
      omega
    have hnext : (s.converter.cycleCounter + 1).toNat = s.converter.cycleCounter.toNat + 1 := by
      rw [succ_eq_ofNat, BitVec.toNat_ofNat, Nat.mod_eq_of_lt (by omega)]
    rw [show 2 * (k + 1) = 2 * k + 1 + 1 from rfl, List.replicate_succ, List.replicate_succ, State.edges_cons,
      State.edges_cons, show (s.edge .halfCycle).edge .halfCycle = s.halfCycle.halfCycle from rfl,
      halfCycle_twice hc hw hfull]
    refine (ih (by exact hc) (by exact hw) (by dsimp only; omega)).trans ?_
    dsimp only
    rw [hnext, Nat.add_assoc, Nat.add_comm 1 k]

end HalfCycles

section Periods

variable {s t : State} {cur : Current} {clock : SpanClock}

/-- The FAST period to come ends a period of the span clock or does not. -/
theorem spanPeriodsIn_one (s : State) (clock : SpanClock) :
    spanPeriodsIn s clock 1 = if clock = .slow → (periods s + 1) % 4 = 0 then 1 else 0 := by
  cases clock
  · rw [spanPeriodsIn]
    split
    · next h => have := h rfl; omega
    · next h => have : (periods s + 1) % 4 ≠ 0 := fun h' => h fun _ => h'; omega
  · exact (if_pos nofun).symm

theorem spanPeriodsIn_succ (k : Nat) (h : periods t = periods s + 1) :
    spanPeriodsIn s clock (k + 1) = spanPeriodsIn s clock 1 + spanPeriodsIn t clock k := by
  cases clock <;> simp only [spanPeriodsIn, h] <;> omega

theorem fastPeriod_of_next (hc : s.converter.state = .ref cur ∨ s.converter.state = .sense cur)
    (h : SpanPeriodNext s cur.spanClock) : s.fastPeriod = (onePeriod s).spanPeriod := by
  obtain ⟨hr, hk, hend⟩ := h
  refine (fastPeriod_eq s hr hk).trans (if_pos ?_)
  rcases hc with hc | hc <;> rw [hc] <;> exact (endsAt_iff _ _).2 hend

theorem fastPeriod_between (hc : s.converter.state = .ref cur ∨ s.converter.state = .sense cur) (hr : Runs s)
    (hk : periods s < 128) (h : ¬ (cur.spanClock = .slow → (periods s + 1) % 4 = 0)) : s.fastPeriod = onePeriod s := by
  refine (fastPeriod_eq s hr hk).trans (if_neg ?_)
  rcases hc with hc | hc <;> rw [hc] <;> exact fun he => h ((endsAt_iff _ _).1 he)

theorem spanPeriod_ref (hc : s.converter.state = .ref cur) (h : s.converter.spanCounter ≠ 0xFFFF) :
    s.spanPeriod = { s with converter := { s.converter with spanCounter := s.converter.spanCounter + 1 } } := by
  rw [State.spanPeriod, hc]
  exact if_neg h

theorem spanPeriod_sense (hc : s.converter.state = .sense cur) (h : s.converter.spanCounter ≠ 1) :
    s.spanPeriod = { s with converter := { s.converter with spanCounter := s.converter.spanCounter - 1 } } := by
  rw [State.spanPeriod, hc]
  exact if_neg h

/-- A FAST period of the tick, seen by the converter: only the Span Counter can change. -/
structure Counted (s t : State) (n : Nat) : Prop where
  converter : t.converter = { s.converter with spanCounter := BitVec.ofNat 16 n }
  periods : periods t = periods s + 1
  runs : Runs t

theorem onePeriod_counted (hr : Runs s) (hk : periods s < 128) :
    Counted s (onePeriod s) s.converter.spanCounter.toNat :=
  ⟨by rw [BitVec.ofNat_toNat, BitVec.setWidth_eq]; rfl, periods_onePeriod s hk, hr⟩

theorem fastPeriod_ref_counted (hc : s.converter.state = .ref cur) (hr : Runs s) (hk : periods s < 128)
    (h : s.converter.spanCounter.toNat + spanPeriodsIn s cur.spanClock 1 ≤ 65535) :
    Counted s s.fastPeriod (s.converter.spanCounter.toNat + spanPeriodsIn s cur.spanClock 1) := by
  rw [spanPeriodsIn_one] at h ⊢
  by_cases hend : cur.spanClock = .slow → (periods s + 1) % 4 = 0
  · rw [if_pos hend] at h ⊢
    have hspan : s.converter.spanCounter ≠ 0xFFFF := fun hx => by
      rw [hx, show (0xFFFF : Word).toNat = 65535 from rfl] at h
      omega
    rw [fastPeriod_of_next (.inl hc) ⟨hr, hk, hend⟩, spanPeriod_ref (s := onePeriod s) hc hspan]
    exact ⟨by rw [← succ_eq_ofNat]; rfl, periods_onePeriod s hk, hr⟩
  · rw [if_neg hend, fastPeriod_between (.inl hc) hr hk hend]
    exact onePeriod_counted hr hk

theorem fastPeriod_sense_counted (hc : s.converter.state = .sense cur) (hr : Runs s) (hk : periods s < 128)
    (h : spanPeriodsIn s cur.spanClock 1 < s.converter.spanCounter.toNat) :
    Counted s s.fastPeriod (s.converter.spanCounter.toNat - spanPeriodsIn s cur.spanClock 1) := by
  rw [spanPeriodsIn_one] at h ⊢
  by_cases hend : cur.spanClock = .slow → (periods s + 1) % 4 = 0
  · rw [if_pos hend] at h ⊢
    have hspan : s.converter.spanCounter ≠ 1 := fun hx => by
      rw [hx] at h
      exact absurd h (by decide)
    have hpred : s.converter.spanCounter - 1 = BitVec.ofNat 16 (s.converter.spanCounter.toNat - 1) := by
      bv_omega
    rw [fastPeriod_of_next (.inr hc) ⟨hr, hk, hend⟩, spanPeriod_sense (s := onePeriod s) hc hspan]
    exact ⟨by rw [← hpred]; rfl, periods_onePeriod s hk, hr⟩
  · rw [if_neg hend, fastPeriod_between (.inr hc) hr hk hend]
    exact onePeriod_counted hr hk

theorem edges_fastPeriod_succ (k : Nat) : s.edges (List.replicate (k + 1) .fastPeriod) =
    s.fastPeriod.edges (List.replicate k .fastPeriod) := by
  rw [List.replicate_succ, State.edges_cons]
  rfl

theorem toNat_ofNat_of_le {n : Nat} (h : n ≤ 65535) : (BitVec.ofNat 16 n).toNat = n := by
  rw [BitVec.toNat_ofNat, Nat.mod_eq_of_lt (by omega)]

/-- In REF the Span Counter counts the periods of the span clock up (R97, R101). -/
theorem edges_fastPeriods_ref (k : Nat) (hc : s.converter.state = .ref cur) (hr : Runs s) (hk : periods s + k ≤ 128)
    (h : s.converter.spanCounter.toNat + spanPeriodsIn s cur.spanClock k ≤ 65535) :
    let t := s.edges (List.replicate k .fastPeriod)
    t.converter = { s.converter with
        spanCounter := BitVec.ofNat 16 (s.converter.spanCounter.toNat + spanPeriodsIn s cur.spanClock k) }
      ∧ periods t = periods s + k := by
  induction k generalizing s with
  | zero =>
    have hnone : spanPeriodsIn s cur.spanClock 0 = 0 := by cases cur.spanClock <;> simp [spanPeriodsIn]
    rw [hnone]
    simp
  | succ k ih =>
    have hsucc := spanPeriodsIn_succ (s := s) (t := onePeriod s) (clock := cur.spanClock) k (periods_onePeriod s (by omega))
    have hstep := fastPeriod_ref_counted hc hr (by omega) (by omega)
    have hsplit := spanPeriodsIn_succ (clock := cur.spanClock) k hstep.periods
    have hcount : s.fastPeriod.converter.spanCounter.toNat =
        s.converter.spanCounter.toNat + spanPeriodsIn s cur.spanClock 1 := by
      rw [hstep.converter]
      exact toNat_ofNat_of_le (by omega)
    have hstate : s.fastPeriod.converter.state = .ref cur := by rw [hstep.converter, ← hc]
    obtain ⟨hconv, hper⟩ := ih hstate hstep.runs (by rw [hstep.periods]; omega) (by rw [hcount]; omega)
    intro t
    have ht : t = s.fastPeriod.edges (List.replicate k .fastPeriod) := edges_fastPeriod_succ k
    rw [ht, hconv, hper, hcount, hstep.converter, hstep.periods, hsplit]
    exact ⟨by rw [Nat.add_assoc], by omega⟩

/-- In SENSE it counts them down (R97, R102). -/
theorem edges_fastPeriods_sense (k : Nat) (hc : s.converter.state = .sense cur) (hr : Runs s) (hk : periods s + k ≤ 128)
    (h : spanPeriodsIn s cur.spanClock k < s.converter.spanCounter.toNat) :
    let t := s.edges (List.replicate k .fastPeriod)
    t.converter = { s.converter with
        spanCounter := BitVec.ofNat 16 (s.converter.spanCounter.toNat - spanPeriodsIn s cur.spanClock k) }
      ∧ periods t = periods s + k := by
  induction k generalizing s with
  | zero =>
    have hnone : spanPeriodsIn s cur.spanClock 0 = 0 := by cases cur.spanClock <;> simp [spanPeriodsIn]
    rw [hnone]
    simp
  | succ k ih =>
    have hsucc := spanPeriodsIn_succ (s := s) (t := onePeriod s) (clock := cur.spanClock) k (periods_onePeriod s (by omega))
    have hlt := s.converter.spanCounter.isLt
    have hstep := fastPeriod_sense_counted hc hr (by omega) (by omega)
    have hsplit := spanPeriodsIn_succ (clock := cur.spanClock) k hstep.periods
    have hcount : s.fastPeriod.converter.spanCounter.toNat =
        s.converter.spanCounter.toNat - spanPeriodsIn s cur.spanClock 1 := by
      rw [hstep.converter]
      exact toNat_ofNat_of_le (by omega)
    have hstate : s.fastPeriod.converter.state = .sense cur := by rw [hstep.converter, ← hc]
    obtain ⟨hconv, hper⟩ := ih hstate hstep.runs (by rw [hstep.periods]; omega) (by rw [hcount]; omega)
    intro t
    have ht : t = s.fastPeriod.edges (List.replicate k .fastPeriod) := edges_fastPeriod_succ k
    rw [ht, hconv, hper, hcount, hstep.converter, hstep.periods, hsplit]
    exact ⟨by rw [Nat.sub_sub], by omega⟩

end Periods

end Sys2Proof.Converting

/-! The ends of the two phases, what ends a conversion early, and the division's end. -/

namespace Sys2Proof.Converting

open Sys2Proof.Machine Sys2Proof.Statement Sys2Proof.Claims Sys2Proof.Requests Sys2Proof.Responses Sys2Proof.Invariants

section PhaseEnds

variable {s : State} {cur : Current}

theorem counting_ref (hc : s.converter.state = .ref cur) : s.converter.state.counting = true := by rw [hc]; rfl

theorem counting_sense (hc : s.converter.state = .sense cur) : s.converter.state.counting = true := by rw [hc]; rfl

theorem cycleFull_of (hw : s.converter.wave = .high) (hm : s.converter.cycleCounter = 0xFFFF) :
    s.converter.cycleFull = true := by
  rw [Converter.cycleFull, hw, hm]
  rfl

theorem exec_referencePhaseEnd_eq (hc : s.converter.state = .ref cur) (hw : s.converter.wave = .high)
    (hm : s.converter.cycleCounter = 0xFFFF) : exec (.referencePhaseEnd []) s = .next s.halfCycle := by
  refine congrArg Host.Outcome.next (if_pos ?_)
  rw [State.edges_nil, cycleFull_of hw hm, hc]
  rfl

theorem exec_cycleCounterOverflow_eq (hc : s.converter.state = .sense cur) (hw : s.converter.wave = .high)
    (hm : s.converter.cycleCounter = 0xFFFF) : exec .cycleCounterOverflow s = .next s.halfCycle := by
  refine congrArg Host.Outcome.next (if_pos ?_)
  rw [cycleFull_of hw hm, hc]
  rfl

theorem exec_spanOverflow_eq (hc : s.converter.state = .ref cur) (hn : SpanPeriodNext s cur.spanClock)
    (h : s.converter.spanCounter = 0xFFFF) : exec .spanOverflow s = .next s.fastPeriod := by
  refine congrArg Host.Outcome.next (if_pos ?_)
  rw [(periodNext_iff s cur (.inl hc)).2 hn, h, hc]
  rfl

theorem exec_sensingPhaseEnd_eq (hc : s.converter.state = .sense cur) (hn : SpanPeriodNext s cur.spanClock)
    (h : s.converter.spanCounter = 1) : exec (.sensingPhaseEnd []) s = .next s.fastPeriod := by
  refine congrArg Host.Outcome.next (if_pos ?_)
  rw [State.edges_nil, (periodNext_iff s cur (.inr hc)).2 hn, h, hc]
  rfl

/-- The Nth reference cycle (R100). -/
theorem halfCycle_ref_full (hc : s.converter.state = .ref cur) (hw : s.converter.wave = .high)
    (hm : s.converter.cycleCounter = 0xFFFF) : s.halfCycle =
      if 16 ≤ s.converter.spanCounter.toNat then
        { s with converter :=
          { state := .sense cur, cycleCounter := 0, spanCounter := s.converter.spanCounter, wave := .low } }
      else localFailed s cur .spanShort := by
  rw [halfCycle_high s (counting_ref hc) hw, State.oscillatorCycle]
  simp only [hc, hm, if_true]
  rfl

/-- The 65536th sensor cycle (R103). -/
theorem halfCycle_sense_full (hc : s.converter.state = .sense cur) (hw : s.converter.wave = .high)
    (hm : s.converter.cycleCounter = 0xFFFF) : s.halfCycle = localFailed s cur .overRange := by
  rw [halfCycle_high s (counting_sense hc) hw, State.oscillatorCycle]
  simp only [hc, hm, if_true]
  rfl

theorem fastPeriod_ref_full (hc : s.converter.state = .ref cur) (hn : SpanPeriodNext s cur.spanClock)
    (h : s.converter.spanCounter = 0xFFFF) : s.fastPeriod = localFailed (onePeriod s) cur .spanOverflow := by
  rw [fastPeriod_of_next (.inl hc) hn, State.spanPeriod, show (onePeriod s).converter.state = .ref cur from hc]
  exact if_pos h

/-- The span period that ends the sensing phase (R102). -/
theorem fastPeriod_sense_last (hc : s.converter.state = .sense cur) (hn : SpanPeriodNext s cur.spanClock)
    (h : s.converter.spanCounter = 1) : s.fastPeriod =
      if s.converter.cycleCounter = 0 then localFailed (onePeriod s) cur .noSignal
      else (onePeriod s).offerLocal cur
        { channel := cur.channel, m := s.converter.cycleCounter, n := cur.presetN, round := cur.round
          origin := .localEngine } := by
  rw [fastPeriod_of_next (.inr hc) hn, State.spanPeriod, show (onePeriod s).converter.state = .sense cur from hc]
  exact if_pos h

/-- Settles O35: single half cycles and periods first, then runs of them. -/
theorem referencePhaseCountsAndEnds : Obligations.ReferencePhaseCountsAndEnds := by
  refine ⟨fun s l => ⟨rfl, congrArg (fun f => l.foldl f s) (funext fun t => funext fun e => ?_)⟩, ?_⟩
  · cases e <;> rfl
  intro s cur hc x sensing
  refine ⟨halfCycle_low s (counting_ref hc), halfCycle_high_counts (counting_ref hc), fun hw hm => ⟨fun h => ?_, fun h => ?_⟩,
    fun hn => ⟨fun h => ?_, fun h => ?_⟩, fun k => edges_halfCycles k (counting_ref hc), fun k hr => edges_fastPeriods_ref k hc hr⟩
  · have hend : s.halfCycle = sensing := (halfCycle_ref_full hc hw hm).trans (if_pos h)
    exact ⟨hend, by rw [exec_referencePhaseEnd_eq hc hw hm, hend]⟩
  · have hend : s.halfCycle = localFailed s cur .spanShort := (halfCycle_ref_full hc hw hm).trans (if_neg (Nat.not_le.2 h))
    exact ⟨hend, by rw [exec_referencePhaseEnd_eq hc hw hm, hend]⟩
  · rw [fastPeriod_of_next (.inl hc) hn, spanPeriod_ref (s := onePeriod s) hc h]
    rfl
  · exact ⟨fastPeriod_ref_full hc hn h, by rw [exec_spanOverflow_eq hc hn h, fastPeriod_ref_full hc hn h]⟩

/-- Settles O36: single half cycles and periods first, then runs of them. -/
theorem sensingPhaseCountsAndEnds : Obligations.SensingPhaseCountsAndEnds := by
  refine ⟨fun s l => rfl, ?_⟩
  intro s cur hc x m v both
  refine ⟨halfCycle_low s (counting_sense hc), halfCycle_high_counts (counting_sense hc), fun hw hm => ?_,
    fun hn => ⟨fun h => ?_, fun h => ?_⟩, fun k => edges_halfCycles k (counting_sense hc),
    fun k hr => edges_fastPeriods_sense k hc hr⟩
  · exact ⟨halfCycle_sense_full hc hw hm, by rw [exec_cycleCounterOverflow_eq hc hw hm, halfCycle_sense_full hc hw hm]⟩
  · rw [fastPeriod_of_next (.inr hc) hn, spanPeriod_sense (s := onePeriod s) hc h]
    rfl
  · have hboth {t : State} (ht : s.fastPeriod = t) : both t := ⟨ht, by rw [exec_sensingPhaseEnd_eq hc hn h, ht]⟩
    have hlast := fastPeriod_sense_last hc hn h
    refine ⟨fun hm => hboth (hlast.trans (if_pos hm)), fun hm => ?_⟩
    intro j
    have hm0 : s.converter.cycleCounter ≠ 0 := fun h0 => by
      rw [show m = 0 from h0] at hm
      exact absurd hm (by decide)
    rw [if_neg hm0] at hlast
    refine ⟨fun hl hd => hboth ?_, fun hl hd => hboth ?_, fun hl => hboth (hlast.trans (if_neg hl))⟩
    · rw [hlast, offerLocal_eq v cur j hl, show v.ratio.divider = none from hd]
      rfl
    · obtain ⟨j', hj'⟩ := Option.ne_none_iff_exists'.1 hd
      rw [hlast, offerLocal_eq v cur j hl, show v.ratio.divider = some j' from hj']
      rfl

end PhaseEnds

section Division

variable {s : State} {j : Job}

theorem divideLocal_eq : s.divideLocal j = localTaken s j := by
  unfold State.divideLocal State.localInputEmptied localTaken Statement.converterHandedOff
  dsimp only
  cases hs : s.converter.state with
  | idle | held | ref | sense => rfl
  | ratioWait cur j' =>
    dsimp only
    rw [converterHandedOff_eq]
    rfl

theorem divideRemote_eq : s.divideRemote j = remoteTaken s j := by
  unfold State.divideRemote State.remoteInputEmptied remoteTaken waitHandedOff
  dsimp only
  cases s.remote.waitOrder <;> rfl

theorem dividerFreed_none (hl : s.ratio.localInput = none) (hr : s.ratio.remoteInput = none) : s.dividerFreed = s := by
  rw [State.dividerFreed, hl, hr]

theorem dividerFreed_local (hl : s.ratio.localInput = some j) (hr : s.ratio.remoteInput = none) :
    s.dividerFreed = localTaken s j := by
  rw [State.dividerFreed, hl, hr, ← divideLocal_eq]

theorem dividerFreed_remote (hl : s.ratio.localInput = none) (hr : s.ratio.remoteInput = some j) :
    s.dividerFreed = remoteTaken s j := by
  rw [State.dividerFreed, hl, hr, ← divideRemote_eq]

/-- Of two jobs that wait, the divider takes that of the input the marker does not name (R87). -/
theorem dividerFreed_local_first {jr : Job} (hl : s.ratio.localInput = some j) (hr : s.ratio.remoteInput = some jr)
    (hm : s.ratio.marker = .remoteEngine) :
    s.dividerFreed = localTaken { s with ratio := { s.ratio with marker := .localEngine } } j := by
  rw [State.dividerFreed, hl, hr, ← divideLocal_eq, hm]

theorem dividerFreed_remote_first {jl : Job} (hl : s.ratio.localInput = some jl) (hr : s.ratio.remoteInput = some j)
    (hm : s.ratio.marker = .localEngine) :
    s.dividerFreed = remoteTaken { s with ratio := { s.ratio with marker := .remoteEngine } } j := by
  rw [State.dividerFreed, hl, hr, ← divideRemote_eq, hm]

/-- Settles O37: by what stands in the two inputs. -/
theorem divisionEndHandsOverAndTakesTheNext : Obligations.DivisionEndHandsOverAndTakesTheNext := by
  intro s j hd u
  let freed : State := { u with ratio := { s.ratio with divider := none } }
  have hexec {t : State} (ht : freed.dividerFreed = t) : exec .divisionEnd s = .next t := by
    refine congrArg Host.Outcome.next (Eq.trans ?_ ht)
    rw [State.divisionEnd, hd]
    rfl
  refine ⟨fun hl hr => hexec ?_, fun jl hl hr => hexec ?_, fun jr hl hr => hexec ?_,
    fun jl jr hl hr => ⟨fun hm => hexec ?_, fun hm => hexec ?_⟩⟩
  · exact dividerFreed_none (s := freed) hl hr
  · exact dividerFreed_local (s := freed) hl hr
  · exact dividerFreed_remote (s := freed) hl hr
  · exact dividerFreed_local_first (s := freed) hl hr hm
  · exact dividerFreed_remote_first (s := freed) hl hr hm

end Division

end Sys2Proof.Converting

/-! The expansion bus: how a transaction begins, how an attempt is lost, and how a transaction ends. -/

namespace Sys2Proof.BusWork

open Sys2Proof.Machine Sys2Proof.Statement Sys2Proof.Claims Sys2Proof.Requests Sys2Proof.Responses Sys2Proof.Invariants

section Losses

variable {s : State} {r : RowNo} {state : RowState} {i : DeadlineItem}

/-! ## What a loss and a failure do not look at -/

theorem without_comm (i j : DeadlineItem) : without (without s i) j = without (without s j) i := by
  simp only [without, List.filter_filter, Bool.and_comm]

theorem without_self (i : DeadlineItem) : without (without s i) i = without s i := by
  simp only [without, List.filter_filter, Bool.and_self]

theorem without_withDeadline (i : DeadlineItem) (t : Stamp) : without (withDeadline s i t) i = without s i := by
  simp [without, withDeadline, List.filter_filter]

theorem withDeadline_without (i : DeadlineItem) (t : Stamp) : withDeadline (without s i) i t = withDeadline s i t := by
  simp only [without, withDeadline, List.filter_filter, Bool.and_self]

theorem withDeadline_withDeadline (i : DeadlineItem) (t u : Stamp) :
    withDeadline (withDeadline s i t) i u = withDeadline s i u := by
  rw [← withDeadline_without (s := withDeadline s i t), without_withDeadline, withDeadline_without]

/-- A loss drops the hold limit in any case. -/
theorem backedOff_without_holdLimit : backedOff (without s .holdLimit) = backedOff s := by
  rw [backedOff, without_self]
  rfl

theorem without_withDeadline_of_ne {j : DeadlineItem} (h : i ≠ j) (t : Stamp) :
    without (withDeadline s i t) j = withDeadline (without s j) i t := by
  simp only [without, withDeadline, List.filter_append, List.filter_filter, Bool.and_comm, List.filter_cons,
    List.filter_nil, decide_eq_true h, if_true]

/-- A loss places the wait limit anew in any case. -/
theorem backedOff_withDeadline_busWait (t : Stamp) : backedOff (withDeadline s .busWait t) = backedOff s := by
  have hne : DeadlineItem.busWait ≠ .holdLimit := nofun
  rw [backedOff, without_withDeadline_of_ne hne, withDeadline_withDeadline]
  rfl

theorem startBegun_withDeadline_busWait (t : Stamp) : startBegun (withDeadline s .busWait t) = startBegun s := by
  rw [startBegun, without_withDeadline, startBegun]

theorem carriedFailed_without_holdLimit (code : Status) :
    carriedFailed (without s .holdLimit) r code = carriedFailed s r code := by
  simp only [carriedFailed, endedBus, without_self]

/-- What the fate of a lost attempt comes to (R126). -/
structure Lost (s t : State) : Prop where
  again : s.bus.attempt.val < 4 → t = backedOff s
  ended : s.bus.attempt.val = 4 → ∀ (r : RowNo) (state : RowState), Carries s r state → t = carriedFailed s r .busLost

theorem lost_lose (s : State) : Lost s s.lose :=
  ⟨lose_of_attempt_lt s, fun h r state hc => lose_of_attempt_eq s r state h hc⟩

end Losses

section Beginnings

variable {s u : State} {xcl : Level} {r : RowNo} {state : RowState}

/-! ## WAIT_FREE and START -/

theorem enterWaitFree_busy (h : s.bus.busState = .busy) : s.enterWaitFree xcl = inControl s .waitFree .stopped := by
  have hbusy : ¬ (s.enterBus .waitFree).bus.busState = .free := fun hf => by
    rw [show (s.enterBus .waitFree).bus.busState = s.bus.busState from rfl, h] at hf
    cases hf
  exact (if_neg hbusy).trans (enterBus_eq s _ _ rfl)

theorem enterWaitFree_free (h : s.bus.busState = .free) :
    s.enterWaitFree xcl = (s.enterBus .waitFree).beginStart xcl := if_pos h

theorem enterWaitFree_free_high (h : s.bus.busState = .free) : s.enterWaitFree .high = startBegun s := by
  rw [enterWaitFree_free h, beginStart_high, startBegun_of_waitFree]

/-- XCL low at the START is a loss (R120). -/
theorem lost_enterWaitFree (h : s.bus.busState = .free) : Lost s (s.enterWaitFree .low) := by
  rw [enterWaitFree_free h]
  refine ⟨fun ha => ?_, fun ha r state hc => ?_⟩
  · exact ((lost_lose _).again ha).trans (backedOff_of_waitFree s)
  · exact ((lost_lose _).ended ha r state hc).trans (carriedFailed_of_waitFree s r _)

/-- Settles O46. -/
theorem attemptsStartOnAFreeBus : Obligations.AttemptsStartOnAFreeBus := by
  intro s xcl
  have hlow : s.beginStart .low = s.lose := rfl
  refine ⟨fun hc hf => ?_, fun h => congrArg Host.Outcome.next (if_neg fun hcf => ?_), fun second hc => ?_⟩
  · have hexec : exec (.attemptStart xcl) s = .next (s.beginStart xcl) := congrArg Host.Outcome.next (if_pos ⟨hc, hf⟩)
    rw [hexec]
    refine ⟨fun hx => ?_, fun hx ha => ?_, fun hx ha r state hr => ?_⟩ <;> rw [hx]
    · rw [beginStart_high]
    · rw [hlow, (lost_lose s).again ha]
    · rw [hlow, (lost_lose s).ended ha r state hr]
  · rcases h with h | h
    · exact h hcf.1
    · exact nomatch h.symm.trans hcf.2
  · have hexec : exec (.backoffEnd xcl) s = .next (s.enterWaitFree xcl) := by
      refine congrArg Host.Outcome.next ?_
      rw [State.backoffEnd, hc]
    rw [hexec]
    refine ⟨fun hb => ?_, fun hf hx => ?_, fun hf hx ha => ?_, fun hf hx ha r state hr => ?_⟩
    · rw [enterWaitFree_busy hb]
    · rw [hx, enterWaitFree_free_high hf]
    · rw [hx, (lost_enterWaitFree hf).again ha]
    · rw [hx, (lost_enterWaitFree hf).ended ha r state hr]

/-! ## A transaction accepted -/

/-- What accepting a transaction comes to, by the bus and by XCL (R118, R119). -/
structure Accepted (s u t : State) (xcl : Level) : Prop where
  busy : s.bus.busState = .busy → t = inControl (withDeadline u .busWait (s.timebase.tick + 65)) .waitFree .stopped
  free_high : s.bus.busState = .free → xcl = .high → t = startBegun u
  free_low : s.bus.busState = .free → xcl = .low → t = backedOff u

theorem accepted_acceptTransaction {x : Transaction} (hb : u.bus.busState = s.bus.busState)
    (ht : u.timebase = s.timebase) (hx : u = { u with bus := { u.bus with attempt := 1, transaction := some x, received := [] } }) :
    Accepted s u (u.acceptTransaction x xcl) xcl := by
  have hplaced : u.acceptTransaction x xcl = (withDeadline u .busWait (s.timebase.tick + 65)).enterWaitFree xcl := by
    rw [State.acceptTransaction, ← hx, State.placeBusWait, placeDeadline_eq, State.now, ht]
    rfl
  have hattempt : u.bus.attempt = 1 := by rw [hx]
  rw [hplaced]
  refine ⟨fun h => enterWaitFree_busy (hb.trans h), fun h hxcl => ?_, fun h hxcl => ?_⟩
  · have hfree : (withDeadline u .busWait (s.timebase.tick + 65)).bus.busState = .free := hb.trans h
    rw [hxcl, enterWaitFree_free_high hfree, startBegun_withDeadline_busWait]
  · have hfree : (withDeadline u .busWait (s.timebase.tick + 65)).bus.busState = .free := hb.trans h
    have hfirst : (withDeadline u .busWait (s.timebase.tick + 65)).bus.attempt.val < 4 := by
      rw [show (withDeadline u .busWait (s.timebase.tick + 65)).bus.attempt = 1 from hattempt]
      decide
    rw [hxcl, (lost_enterWaitFree hfree).again hfirst, backedOff_withDeadline_busWait]

theorem freeRow_eq_some (hf : s.remote.rows[r].state = .free) (hl : ∀ q : RowNo, q < r → s.remote.rows[q].state ≠ .free) :
    s.freeRow = some r := find_finRange _ r (decide_eq_true hf) fun q hq => decide_eq_false (hl q hq)

/-- Settles O40. -/
theorem triggerTakesAnEntryIntoARow : Obligations.TriggerTakesAnEntryIntoARow := by
  intro s xcl before after e r address settle limit hi ho hroom hl hk hr hb hne hf hlow hfields u
  have hfields' : (s.channel e.channel).fields = .remoteKind address settle limit := hfields
  have htake : s.takeable false = some e :=
    Converting.takeable_eq false hl (decide_eq_false (Nat.not_lt.2 hk)) hr fun d hd => by
      rcases hb d hd with hd | hd
      · exact .inl (by simp [isLocal, hd])
      · exact .inr hd
  have hexec : exec (.trigger xcl) s = .next (u.acceptTransaction
      { target := address, writePart := [0x10, 0x01], readCount := 0 } xcl) := by
    refine congrArg Host.Outcome.next ((if_pos ⟨hi, ho, hroom⟩).trans ?_)
    simp only [freeRow_eq_some hf hlow, htake, hfields', Converting.startConversion_eq .remoteEngine hl hne]
    rfl
  have hacc := accepted_acceptTransaction (s := s) (u := u) (xcl := xcl)
    (x := { target := address, writePart := [0x10, 0x01], readCount := 0 }) rfl rfl rfl
  rw [hexec]
  exact ⟨fun h => congrArg _ (hacc.busy h), fun h hx => congrArg _ (hacc.free_high h hx),
    fun h hx => congrArg _ (hacc.free_low h hx)⟩

/-- Settles O41. -/
theorem readServesTheHeadOfTheReadOrder : Obligations.ReadServesTheHeadOfTheReadOrder := by
  intro s xcl r rest hi ho u
  have hexec : exec (.read xcl) s = .next (u.acceptTransaction
      { target := s.remote.rows[r].busAddress, writePart := [0x20], readCount := 5 } xcl) := by
    refine congrArg Host.Outcome.next ((if_pos hi).trans ?_)
    simp only [ho]
    rfl
  have hacc := accepted_acceptTransaction (s := s) (u := u) (xcl := xcl)
    (x := { target := s.remote.rows[r].busAddress, writePart := [0x20], readCount := 5 }) rfl rfl rfl
  rw [hexec]
  exact ⟨fun h => congrArg _ (hacc.busy h), fun h hx => congrArg _ (hacc.free_high h hx),
    fun h hx => congrArg _ (hacc.free_low h hx)⟩

end Beginnings

section Conditions

/-- Settles O44. -/
theorem foreignConditionsSetTheBusState : Obligations.ForeignConditionsSetTheBusState := by
  intro s
  have hstart (he : Exposed s) (hs : s.bus.control ≠ .start) : Lost (busy s) s.foreignStart := by
    rw [foreignStart_exposed s he hs]
    exact lost_lose (busy s)
  have hstop (he : Exposed s) : Lost (freed s) s.foreignStop := by
    rw [foreignStop_exposed s he]
    exact lost_lose (freed s)
  refine ⟨fun h => ?_, fun h => ?_, fun h he => ?_, fun ha => ⟨fun he hs => ?_, fun he => ?_⟩,
    fun ha r state hc => ⟨fun he hs => ?_, fun he => ?_⟩⟩
  · exact congrArg Host.Outcome.next (if_pos (h.imp_left (inAttempt_eq_false_iff s).2))
  · exact congrArg Host.Outcome.next (if_pos ((inAttempt_eq_false_iff s).2 h))
  · obtain ⟨h1, h2⟩ := foreign_hidden s h he
    exact ⟨congrArg Host.Outcome.next h1, congrArg Host.Outcome.next h2⟩
  · exact congrArg Host.Outcome.next ((hstart he hs).again ha)
  · exact congrArg Host.Outcome.next ((hstop he).again ha)
  · exact congrArg Host.Outcome.next ((hstart he hs).ended ha r state hc)
  · exact congrArg Host.Outcome.next ((hstop he).ended ha r state hc)

/-- Settles O45. -/
theorem lossEndsTheAttempt : Obligations.LossEndsTheAttempt := by
  intro s cause h u
  have hexec : exec (.lossOfArbitration cause) s = .next u.lose := by
    refine congrArg Host.Outcome.next ((if_pos ((canLose_iff_Losable s cause).2 h)).trans ?_)
    cases cause <;> rfl
  have hattempt : u.bus.attempt = s.bus.attempt := by cases cause <;> rfl
  have hrows : u.remote = s.remote := by cases cause <;> rfl
  rw [hexec]
  refine ⟨fun ha => congrArg _ ((lost_lose u).again (hattempt ▸ ha)), fun ha r state hc => ?_⟩
  refine congrArg _ ((lost_lose u).ended (hattempt ▸ ha) r state ?_)
  rw [Carries, hrows]
  exact hc

end Conditions

section Ends

variable {s : State} {r : RowNo} {state : RowState}

theorem settleRow_eq (ahead : Stamp) (polls : BitVec 4) : s.settleRow r ahead polls = settled s r ahead polls :=
  placeDeadline_eq _ _ _

theorem takeOutcome_triggering (h : Carries s r .triggering) (o : BusOutcome) : s.takeOutcome o = s.triggerOutcome r o := by
  rw [State.takeOutcome, activeRow_of_Carries s r _ h]
  exact if_pos h.2.1

theorem takeOutcome_reading (h : Carries s r .reading) (o : BusOutcome) : s.takeOutcome o = s.readOutcome r o := by
  rw [State.takeOutcome, activeRow_of_Carries s r _ h]
  exact if_neg fun ht => by
    rw [show (s.row r).state = .reading from h.2.1] at ht
    cases ht

theorem resultBlock_ready (b1 b2 b3 b4 : Byte) :
    s.resultBlock r [0x00, b1, b2, b3, b4] = s.offerRemote r (b1 ++ b2) (b3 ++ b4) := rfl

theorem resultBlock_busy_again (b1 b2 b3 b4 : Byte) (h : s.remote.rows[r].polls.toNat < s.remote.rows[r].pollLimit.toNat) :
    s.resultBlock r [0x01, b1, b2, b3, b4] = settled s r 4 (s.remote.rows[r].polls + 1) := by
  rw [← settleRow_eq]
  exact if_pos h

theorem resultBlock_busy_last (b1 b2 b3 b4 : Byte) (h : s.remote.rows[r].pollLimit.toNat ≤ s.remote.rows[r].polls.toNat) :
    s.resultBlock r [0x01, b1, b2, b3, b4] = failed s r .remoteTimeout := if_neg (Nat.not_lt.2 h)

theorem resultBlock_fault {b0 : Byte} (b1 b2 b3 b4 : Byte) (h0 : b0 ≠ 0x00) (h1 : b0 ≠ 0x01) :
    s.resultBlock r [b0, b1, b2, b3, b4] = failed s r .remoteFault := by
  rw [State.resultBlock, if_neg h0, if_neg h1, remoteError_eq]

theorem offerRemote_empty (m n : Word) (h : s.ratio.remoteInput = none) : s.offerRemote r m n =
    { withRow s r freeRowValues with
      ratio := match s.ratio.divider with
        | none => { s.ratio with divider := some (jobOf s.remote.rows[r] m n) }
        | some _ => { s.ratio with remoteInput := some (jobOf s.remote.rows[r] m n) } } := by
  refine (if_pos h).trans ?_
  unfold State.arrive
  cases s.ratio.divider <;> rfl

theorem stopCompletes_eq {place : StopStep} {result : AttemptResult}
    (hp : place ∈ [StopStep.clocked .high, .released, .overdue]) (hc : s.bus.control = .stop place result) :
    s.stopCompletes = (endedBus (freed s)).takeOutcome (stopOutcome s.bus result) := by
  simp only [List.mem_cons, List.not_mem_nil, or_false] at hp
  rw [← endTransaction_eq, ← sawStop_eq, State.stopCompletes]
  rcases hp with rfl | rfl | rfl <;> rw [hc]

theorem endedBus_freed_remote : (endedBus (freed s)).remote = s.remote := endedBus_remote _

/-- Settles O42. -/
theorem stopEndsTheTransaction : Obligations.StopEndsTheTransaction := by
  intro s r place result hp hc u x
  have hexec : exec .stop s = .next (u.takeOutcome (stopOutcome s.bus result)) :=
    congrArg Host.Outcome.next (stopCompletes_eq hp hc)
  have hcarries {state : RowState} (h : Carries s r state) : Carries u r state := Carries_endedBus (freed s) r state h
  rw [hexec]
  refine ⟨fun h => ?_, fun h => ?_⟩
  · rw [takeOutcome_triggering (hcarries h)]
    cases result with
    | done => exact congrArg Host.Outcome.next (settleRow_eq _ _)
    | addressNack | dataNack => rfl
  rw [takeOutcome_reading (hcarries h)]
  refine ⟨fun hres => by rw [hres]; rfl, fun hres => by rw [hres]; rfl, fun b0 b1 b2 b3 b4 hres hrec => ?_⟩
  have hdone : stopOutcome s.bus result = .done [b0, b1, b2, b3, b4] := by rw [hres, ← hrec]; rfl
  rw [hdone, State.readOutcome]
  refine ⟨fun h0 => ?_, fun h0 hpolls => ?_, fun h0 hpolls => ?_, fun h0 h1 => ?_⟩
  · subst h0
    rw [resultBlock_ready]
    refine ⟨fun hi hd => ?_, fun hi hd => ?_, fun hi => congrArg Host.Outcome.next (if_neg hi)⟩
    · rw [offerRemote_empty (s := u) _ _ hi, show u.ratio.divider = none from hd]
      rfl
    · obtain ⟨j, hj⟩ := Option.ne_none_iff_exists'.1 hd
      rw [offerRemote_empty (s := u) _ _ hi, show u.ratio.divider = some j from hj]
      rfl
  · subst h0
    exact congrArg Host.Outcome.next (resultBlock_busy_again b1 b2 b3 b4 hpolls)
  · subst h0
    exact congrArg Host.Outcome.next (resultBlock_busy_last b1 b2 b3 b4 hpolls)
  · exact congrArg Host.Outcome.next (resultBlock_fault b1 b2 b3 b4 h0 h1)

/-- Settles O51. -/
theorem remoteExpiriesAct : Obligations.RemoteExpiriesAct := by
  intro s r
  refine ⟨fun hd hs => ?_, fun state hc => ⟨fun hd hr => ?_, fun hd hw hb => ?_⟩⟩
  · refine congrArg Host.Outcome.next ((if_pos ⟨(expiryDue_iff s _).2 hd, hs⟩).trans ?_)
    rw [dropDeadline_eq]
    rfl
  · refine congrArg Host.Outcome.next ((if_pos ⟨(expiryDue_iff s _).2 hd, hr⟩).trans ?_)
    exact endTransaction_failed s _ r state _ hc (.inr (.inl ⟨rfl, rfl⟩))
  · refine congrArg Host.Outcome.next ((if_pos ⟨(expiryDue_iff s _).2 hd, hw, hb⟩).trans ?_)
    exact endTransaction_failed s _ r state _ hc (.inr (.inr (.inl ⟨rfl, rfl⟩)))

end Ends

section Sensor

variable (x : RemoteSensor) (m n : Word)

theorem triggered_eq : x.write [0x10, 0x01] = { x with index := 0x10, measuring := true } := rfl

theorem selected_eq : x.write [0x20] = { x with index := 0x20 } := rfl

theorem word_of_bytes (w : Word) : w.extractLsb' 8 8 ++ w.extractLsb' 0 8 = w := by
  refine BitVec.eq_of_getLsbD_eq fun i hi => ?_
  rw [BitVec.getLsbD_append, BitVec.getLsbD_extractLsb', BitVec.getLsbD_extractLsb']
  by_cases hlow : i < 8
  · simp [hlow]
  · simp [hlow, show i - 8 < 8 by omega, show 8 + (i - 8) = i by omega]

/-- Settles O43. -/
theorem sensorAnswersTheRegisterProtocol : Obligations.SensorAnswersTheRegisterProtocol := by
  intro x m n busySensor
  refine ⟨rfl, rfl, rfl, rfl, rfl, rfl, rfl, fun s r => ?_⟩
  have hblock : (busySensor.finish m n).block = [0x00, m.extractLsb' 8 8, m.extractLsb' 0 8, n.extractLsb' 8 8, n.extractLsb' 0 8] := rfl
  rw [hblock, resultBlock_ready, word_of_bytes, word_of_bytes]

end Sensor

end Sys2Proof.BusWork

/-! The bit timer and the clock: half-bit periods, the rise of XCL, another device's clock, and the bytes they make. -/

namespace Sys2Proof.BusBits

open Sys2Proof.Machine Sys2Proof.Statement Sys2Proof.BusWork

section HalfBits

variable {s : State}

/-- What follows a target's acknowledge of low (R122). -/
theorem enterBus_afterWritePart (s : State) : s.enterBus (afterWritePart s.bus.carried) =
    if s.bus.carried.readCount = 0 then timed s (.stop (.clocked .low) .done) else timed s (.restart (.clocked .low)) := by
  unfold afterWritePart
  by_cases h : s.bus.carried.readCount = 0
  · rw [if_neg (by omega), if_pos h]
    exact enterBus_timed s _ rfl
  · rw [if_pos (by omega), if_neg h]
    exact enterBus_timed s _ rfl

theorem enterBus_afterAddress (s : State) : s.enterBus (afterAck s.bus.carried .addressWrite) =
    if s.bus.carried.writePart = [] then
      if s.bus.carried.readCount = 0 then timed s (.stop (.clocked .low) .done) else timed s (.restart (.clocked .low))
    else timed s (.sendByte (.writeByte 0) 0 .low) := by
  unfold afterAck
  by_cases h : s.bus.carried.writePart = []
  · rw [if_neg (by simp [h]), if_pos h, enterBus_afterWritePart]
  · rw [if_pos (List.length_pos_iff.2 h), if_neg h]
    exact enterBus_timed s _ rfl

theorem enterBus_afterByte (s : State) (k : Nat) : s.enterBus (afterAck s.bus.carried (.writeByte k)) =
    if k + 1 < s.bus.carried.writePart.length then timed s (.sendByte (.writeByte (k + 1)) 0 .low)
    else if s.bus.carried.readCount = 0 then timed s (.stop (.clocked .low) .done)
    else timed s (.restart (.clocked .low)) := by
  unfold afterAck
  dsimp only
  split
  · exact enterBus_timed s _ rfl
  · exact enterBus_afterWritePart s

/-- Settles O47: by cases over the controller's states. -/
theorem halfBitPeriodsFollowTheStates : Obligations.HalfBitPeriodsFollowTheStates := by
  intro s
  refine congrArg Host.Outcome.next ?_
  unfold State.halfBitPeriodEnd State.endHighHalf
  cases s.bus.control with
  | idle | waitFree => rfl
  | start => exact enterBus_timed s _ rfl
  | sendByte y i half =>
    cases half with
    | low => exact releaseXcl_eq s _ rfl
    | rising => rfl
    | high =>
      dsimp only
      split <;> exact enterBus_timed s _ rfl
  | ackIn y half level =>
    cases half with
    | low => exact releaseXcl_eq s _ rfl
    | rising => cases y <;> rfl
    | high =>
      cases level with
      | low =>
        cases y with
        | addressWrite => exact enterBus_afterAddress s
        | writeByte k => exact enterBus_afterByte s k
        | addressRead => exact enterBus_timed s _ rfl
      | high => cases y <;> exact enterBus_timed s _ rfl
  | recvByte i half bits =>
    cases half with
    | low => exact releaseXcl_eq s _ rfl
    | rising => rfl
    | high =>
      dsimp only
      split <;> exact enterBus_timed _ _ rfl
  | ackOut half =>
    cases half with
    | low => exact releaseXcl_eq s _ rfl
    | rising => rfl
    | high =>
      refine (ite_congr (propext decide_eq_true_iff) (fun _ => rfl) fun _ => rfl).trans (ite_congr rfl (fun _ => ?_) fun _ => ?_)
      · exact enterBus_timed s _ rfl
      · exact enterBus_timed s _ rfl
  | restart step =>
    cases step with
    | clocked half =>
      cases half with
      | low => exact releaseXcl_eq s _ rfl
      | rising => rfl
      | high => exact enterBus_timed _ _ rfl
    | pulled => exact enterBus_timed s _ rfl
  | stop place result =>
    cases place with
    | clocked half =>
      cases half with
      | low => exact releaseXcl_eq s _ rfl
      | rising => rfl
      | high => exact enterBus_timed s _ rfl
    | released => exact enterBus_eq s _ _ rfl
    | overdue => rfl
  | backoff second =>
    cases second with
    | false => exact enterBus_timed s _ rfl
    | true => rfl

end HalfBits

section Rises

variable {s : State} {xda : Level}

theorem enterBus_risen (s : State) (c : BusControl) (h : timerIn s.bus.rate c = .running s.bus.rate.reload) :
    (s.dropDeadline .holdLimit).enterBus c = timed (without s .holdLimit) c := by
  rw [dropDeadline_eq]
  exact enterBus_timed _ _ h

/-- A loss at a rise of XCL. -/
theorem lost_risen (s : State) : Lost s (s.dropDeadline .holdLimit).lose := by
  rw [dropDeadline_eq]
  refine ⟨fun h => ?_, fun h r state hc => ?_⟩
  · exact ((lost_lose (without s .holdLimit)).again h).trans backedOff_without_holdLimit
  · exact ((lost_lose (without s .holdLimit)).ended h r state hc).trans (carriedFailed_without_holdLimit _)

theorem levelBit_eq (l : Level) : (levelBit l).setWidth 8 = match l with | .low => (0 : Byte) | .high => 1 := by
  cases l <;> rfl

theorem xclSampledHigh_sendByte {y : SentByte} {i : Fin 8} (hc : s.bus.control = .sendByte y i .rising) :
    s.xclSampledHigh xda =
      if (sentByte s.bus.carried y).getMsbD i.val = true ∧ xda = .low then (s.dropDeadline .holdLimit).lose
      else timed (without s .holdLimit) (.sendByte y i .high) := by
  rw [State.xclSampledHigh.eq_def, hc, ← enterBus_risen s _ rfl]
  rfl

theorem xclSampledHigh_recvByte {i : Fin 8} {bits : Byte} (hc : s.bus.control = .recvByte i .rising bits) :
    s.xclSampledHigh xda = timed (without s .holdLimit)
      (.recvByte i .high ((bits <<< 1) ||| match xda with | .low => 0 | .high => 1)) := by
  rw [State.xclSampledHigh.eq_def, hc, ← levelBit_eq]
  exact enterBus_risen s _ rfl

theorem xclSampledHigh_ackOut (hc : s.bus.control = .ackOut .rising) : s.xclSampledHigh xda =
    if s.bus.carried.readCount ≤ s.bus.received.length ∧ xda = .low then (s.dropDeadline .holdLimit).lose
    else timed (without s .holdLimit) (.ackOut .high) := by
  rw [State.xclSampledHigh.eq_def, hc, ← enterBus_risen s _ rfl]
  exact ite_congr (propext (and_congr_left fun _ => decide_eq_true_iff)) (fun _ => rfl) fun _ => rfl

theorem xclSampledHigh_restart (hc : s.bus.control = .restart (.clocked .rising)) : s.xclSampledHigh xda =
    if xda = .low then (s.dropDeadline .holdLimit).lose
    else timed (without s .holdLimit) (.restart (.clocked .high)) := by
  rw [State.xclSampledHigh.eq_def, hc, ← enterBus_risen s _ rfl]
  cases xda <;> rfl

theorem xclSampledHigh_of_not_rising (h : s.bus.control.rising = false) : s.xclSampledHigh xda = s := by
  rw [State.xclSampledHigh.eq_def]
  split
  case h_7 => rfl
  all_goals
    next hc =>
      rw [hc] at h
      cases h

/-- Settles O48. -/
theorem xclSampledHighTakesTheBit : Obligations.XclSampledHighTakesTheBit := by
  intro s xda u
  have hhigh : Level.high ≠ .low := nofun
  refine ⟨fun y i hc h => ?_, fun y l hc => ?_, fun i bits hc => ?_, fun hc h => ?_, fun hc h => ?_, fun result hc => ?_,
    fun hc h => ?_, fun h => congrArg Host.Outcome.next (xclSampledHigh_of_not_rising h)⟩
  · refine congrArg Host.Outcome.next ((xclSampledHigh_sendByte hc).trans (if_neg fun hl => ?_))
    rcases h with h | h
    · exact Bool.false_ne_true (h.symm.trans hl.1)
    · exact hhigh (h.symm.trans hl.2)
  · refine congrArg Host.Outcome.next ?_
    rw [State.xclSampledHigh.eq_def, hc]
    exact enterBus_risen s _ rfl
  · exact congrArg Host.Outcome.next (xclSampledHigh_recvByte hc)
  · refine congrArg Host.Outcome.next ((xclSampledHigh_ackOut hc).trans (if_neg fun hl => ?_))
    rcases h with h | h
    · exact Nat.not_lt.2 hl.1 h
    · exact hhigh (h.symm.trans hl.2)
  · exact congrArg Host.Outcome.next ((xclSampledHigh_restart hc).trans (if_neg fun hl => hhigh (h.symm.trans hl)))
  · refine congrArg Host.Outcome.next ?_
    rw [State.xclSampledHigh.eq_def, hc]
    exact enterBus_risen s _ rfl
  · have hlose : s.xclSampledHigh xda = (s.dropDeadline .holdLimit).lose := by
      rcases hc with ⟨y, i, hc, hbit⟩ | ⟨hc, hlast⟩ | hc
      · exact (xclSampledHigh_sendByte hc).trans (if_pos ⟨hbit, h⟩)
      · exact (xclSampledHigh_ackOut hc).trans (if_pos ⟨hlast, h⟩)
      · exact (xclSampledHigh_restart hc).trans (if_pos h)
    have hexec : exec (.xclSampledHigh xda) s = .next (s.dropDeadline .holdLimit).lose := congrArg Host.Outcome.next hlose
    rw [hexec]
    exact ⟨fun ha => congrArg _ ((lost_risen s).again ha), fun ha r state hr => congrArg _ ((lost_risen s).ended ha r state hr)⟩

/-- Settles O49. -/
theorem anotherClockEndsTheHighHalf : Obligations.AnotherClockEndsTheHighHalf := by
  intro s u
  have hrestart (hc : s.bus.control = .restart (.clocked .high)) : exec .xclPulledLowByAnotherDevice s = .next u.lose := by
    refine congrArg Host.Outcome.next ?_
    rw [State.xclPulledLow, hc]
    rfl
  refine ⟨fun h => congrArg Host.Outcome.next ?_, fun hc ha => ?_, fun hc ha r state hr => ?_,
    fun h => congrArg Host.Outcome.next ?_⟩
  · have hu : u.bus.control = s.bus.control := rfl
    rw [State.xclPulledLow, State.halfBitPeriodEnd, hu]
    split at h
    case h_8 => exact h.elim
    all_goals
      next hc =>
        rw [hc]
        rfl
  · rw [hrestart hc, (lost_lose u).again ha]
  · rw [hrestart hc, (lost_lose u).ended ha r state hr]
  · have hu : u.bus.control = s.bus.control := rfl
    have hlow : s.lineWentLow = u := rfl
    rw [State.xclPulledLow, State.endHighHalf, hlow, hu]
    split at h
    case h_18 => exact h.elim
    all_goals
      next hc =>
        rw [hc]

end Rises

end Sys2Proof.BusBits

/-! A byte received and a byte sent, bit by bit. -/

namespace Sys2Proof.BusBits

open Sys2Proof.Machine Sys2Proof.Statement Sys2Proof.BusWork

section Received

variable {s t : State} {i : Fin 8} {bits b : Byte} {l : Level}

/-- One bit clocked in: the low half, the rise with XDA at a level, the high half. -/
def clockedIn (t : State) (l : Level) : State := ((t.halfBitPeriodEnd).xclSampledHigh l).halfBitPeriodEnd

/-- The bits of a byte in reception once a level has been sampled. -/
def sampled (bits : Byte) (l : Level) : Byte := (bits <<< 1) ||| match l with | .low => 0 | .high => 1

theorem risen_recvByte (hc : t.bus.control = .recvByte i .low bits) : (t.halfBitPeriodEnd).xclSampledHigh l =
    timed (without (released t (.recvByte i .rising bits)) .holdLimit) (.recvByte i .high (sampled bits l)) := by
  have hlow : t.halfBitPeriodEnd = released t (.recvByte i .rising bits) := by
    rw [State.halfBitPeriodEnd, hc]
    exact releaseXcl_eq t _ rfl
  rw [hlow]
  exact xclSampledHigh_recvByte rfl

/-- The controller's place, and what the attempt holds otherwise. -/
structure At (s t : State) (c : BusControl) : Prop where
  control : t.bus.control = c
  received : t.bus.received = s.bus.received
  attempt : t.bus.attempt = s.bus.attempt
  transaction : t.bus.transaction = s.bus.transaction

theorem clockedIn_bit (h : At s t (.recvByte i .low bits)) (hi : i.val < 7) :
    At s (clockedIn t l) (.recvByte (Fin.ofNat 8 (i.val + 1)) .low (sampled bits l)) := by
  have hend : clockedIn t l = (timed (without (released t (.recvByte i .rising bits)) .holdLimit)
      (.recvByte i .high (sampled bits l))).enterBus (.recvByte (Fin.ofNat 8 (i.val + 1)) .low (sampled bits l)) := by
    rw [clockedIn, risen_recvByte h.control]
    exact if_neg (by omega)
  rw [hend]
  exact ⟨rfl, h.received, h.attempt, h.transaction⟩

/-- The eighth bit ends the byte (R123). -/
theorem clockedIn_last (h : At s t (.recvByte 7 .low bits)) :
    (clockedIn t l).bus.control = .ackOut .low ∧ (clockedIn t l).bus.received = s.bus.received ++ [sampled bits l]
      ∧ (clockedIn t l).bus.attempt = s.bus.attempt ∧ (clockedIn t l).bus.transaction = s.bus.transaction := by
  rw [clockedIn, risen_recvByte h.control]
  exact ⟨rfl, congrArg (· ++ [sampled bits l]) h.received, h.attempt, h.transaction⟩

/-- The level that carries bit `i` of a byte, most significant first. -/
def bitLevel (b : Byte) (i : Fin 8) : Level := if b.getMsbD i.val = true then .high else .low

/-- With bit `i` sampled after those before it, the bits down to it have come in. -/
theorem sampled_bits (b : Byte) (i : Fin 8) : sampled (b >>> (8 - i.val)) (bitLevel b i) = b >>> (7 - i.val) := by
  have hi := i.isLt
  have hbit : (match bitLevel b i with | .low => (0 : Byte) | .high => 1) =
      (BitVec.ofBool (b.getLsbD (7 - i.val))).setWidth 8 := by
    have hmsb : b.getMsbD i.val = b.getLsbD (7 - i.val) := by simp [BitVec.getMsbD, hi]
    rw [bitLevel, hmsb]
    cases b.getLsbD (7 - i.val) <;> rfl
  rw [sampled.eq_def, hbit]
  refine BitVec.eq_of_getLsbD_eq fun j hj => ?_
  simp only [BitVec.getLsbD_or, BitVec.getLsbD_shiftLeft, BitVec.getLsbD_ushiftRight, BitVec.getLsbD_setWidth,
    BitVec.getLsbD_ofBool]
  rcases Nat.eq_zero_or_pos j with rfl | hpos
  · simp
  · simp [hj, Nat.not_lt.2 hpos, show 8 - i.val + (j - 1) = 7 - i.val + j by omega, show j ≠ 0 by omega]

/-- After `k` bits of a byte (R123). -/
abbrev Receiving (s t : State) (b : Byte) (i : Fin 8) : Prop := At s t (.recvByte i .low (b >>> (8 - i.val)))

theorem receiving_next {i' : Fin 8} (h : Receiving s t b i) (hi : i'.val = i.val + 1) :
    Receiving s (clockedIn t (bitLevel b i)) b i' := by
  have hnext := clockedIn_bit (l := bitLevel b i) h (by omega)
  have hplace : Fin.ofNat 8 (i.val + 1) = i' := Fin.ext ((Nat.mod_eq_of_lt (by omega)).trans hi.symm)
  rw [sampled_bits, hplace, show 7 - i.val = 8 - i'.val by omega] at hnext
  exact hnext

theorem received_byte (b : Byte) (hc : s.bus.control = .recvByte 0 .low 0) :
    let t := (List.finRange 8).foldl (fun t i => clockedIn t (bitLevel b i)) s
    t.bus.control = .ackOut .low ∧ t.bus.received = s.bus.received ++ [b]
      ∧ t.bus.attempt = s.bus.attempt ∧ t.bus.transaction = s.bus.transaction := by
  have h0 : Receiving s s b 0 := by
    refine ⟨hc.trans (congrArg (BusControl.recvByte 0 .low) ?_), rfl, rfl, rfl⟩
    exact (BitVec.ushiftRight_eq_zero (by decide)).symm
  have h1 : Receiving s _ b 1 := receiving_next h0 rfl
  have h2 : Receiving s _ b 2 := receiving_next h1 rfl
  have h3 : Receiving s _ b 3 := receiving_next h2 rfl
  have h4 : Receiving s _ b 4 := receiving_next h3 rfl
  have h5 : Receiving s _ b 5 := receiving_next h4 rfl
  have h6 : Receiving s _ b 6 := receiving_next h5 rfl
  have h7 : Receiving s _ b 7 := receiving_next h6 rfl
  have hlast := clockedIn_last (l := bitLevel b 7) h7
  rw [sampled_bits b 7] at hlast
  exact hlast

end Received

section Sent

variable {s t : State} {y : SentByte} {i : Fin 8}

theorem clockedIn_sendByte (hc : t.bus.control = .sendByte y i .low) : clockedIn t .high =
    (timed (without (released t (.sendByte y i .rising)) .holdLimit) (.sendByte y i .high)).enterBus
      (if i.val = 7 then .ackIn y .low .high else .sendByte y (Fin.ofNat 8 (i.val + 1)) .low) := by
  have hlow : t.halfBitPeriodEnd = released t (.sendByte y i .rising) := by
    rw [State.halfBitPeriodEnd, hc]
    exact releaseXcl_eq t _ rfl
  have hrise : (released t (.sendByte y i .rising)).xclSampledHigh .high =
      timed (without (released t (.sendByte y i .rising)) .holdLimit) (.sendByte y i .high) :=
    (xclSampledHigh_sendByte rfl).trans (if_neg fun h => nomatch h.2)
  rw [clockedIn, hlow, hrise, apply_ite (State.enterBus _)]
  rfl

/-- Where `k` undisturbed bits of a byte sent lead (R121). -/
def placeAfter (y : SentByte) (k : Nat) : BusControl :=
  if h : k < 8 then .sendByte y ⟨k, h⟩ .low else .ackIn y .low .high

theorem at_clocked (hc : s.bus.control = .sendByte y 0 .low) (k : Nat) (hk : k ≤ 8) :
    At s ((List.range k).foldl (fun t _ => clockedIn t .high) s) (placeAfter y k) := by
  induction k with
  | zero => exact ⟨hc, rfl, rfl, rfl⟩
  | succ k ih =>
    have hat := ih (by omega)
    rw [placeAfter, dif_pos (by omega : k < 8)] at hat
    rw [List.range_succ, List.foldl_append, List.foldl_cons, List.foldl_nil, clockedIn_sendByte hat.control]
    refine ⟨?_, hat.received, hat.attempt, hat.transaction⟩
    rw [show (State.enterBus _ _).bus.control = _ from rfl, placeAfter]
    by_cases h7 : k = 7
    · rw [if_pos h7, dif_neg (by omega)]
      rfl
    · have hk7 : k < 7 := by omega
      rw [if_neg h7, dif_pos (by omega : k + 1 < 8)]
      exact congrArg (BusControl.sendByte y · .low) (Fin.ext (Nat.mod_eq_of_lt (Nat.succ_lt_succ hk7)))

theorem carried_of_At {c : BusControl} (h : At s t c) : t.bus.carried = s.bus.carried := by
  rw [BusController.carried, BusController.carried, h.transaction]

theorem addressByte_toNat (target : BitVec 7) (d : BitVec 1) : (target ++ d : Byte).toNat = 2 * target.toNat + d.toNat := by
  have hd := d.isLt
  rw [BitVec.toNat_append, ← Nat.shiftLeft_add_eq_or_of_lt hd, Nat.shiftLeft_eq]
  omega

/-- Settles O50. -/
theorem eightBitsMakeAByte : Obligations.EightBitsMakeAByte := by
  refine ⟨fun s b hc => received_byte b hc, fun s y hc => ?_⟩
  intro after
  have hafter (k : Nat) (hk : k ≤ 8) : At s (after k) (placeAfter y k) := at_clocked hc k hk
  refine ⟨fun i => ?_, (hafter 8 (by omega)).control, ?_, ?_, fun k h => ?_, fun x hx => ?_⟩
  · have hat := hafter i.val (by omega)
    have hplace : placeAfter y i.val = .sendByte y i .low := dif_pos i.isLt
    have hcontrol : (after i.val).bus.control = .sendByte y i .low := hat.control.trans hplace
    refine ⟨hcontrol, ?_, ?_⟩
    · rw [BusController.xdaPulled, hcontrol, ← carried_of_At hat]
      exact iff_of_eq (Bool.not_eq_true' _)
    · rw [BusController.xclPulled, hcontrol]
  · exact addressByte_toNat _ 0
  · exact addressByte_toNat _ 1
  · exact (List.getElem_eq_getD _).symm
  · rw [BusController.carried, hx]
    rfl

end Sent

end Sys2Proof.BusBits

/-! A tick: the periods it completes, the deliveries, the taps and the idle check. -/

namespace Sys2Proof.Ticking

open Sys2Proof.Machine Sys2Proof.Statement

section Clock

variable {s t u : State}

/-- The crystal's cycles against the quarters of the tick's periods: no edge changes their difference (R97). -/
structure InStep (s t : State) : Prop where
  runs : Runs s → Runs t
  periods_le : periods s ≤ 128 → periods t ≤ 128
  crystal : periods s ≤ 128 → t.timebase.crystalCycles + periods s / 4 = s.timebase.crystalCycles + periods t / 4

theorem InStep.refl (s : State) : InStep s s := ⟨id, id, fun _ => rfl⟩

theorem InStep.trans (h : InStep s t) (h' : InStep t u) : InStep s u := by
  refine ⟨h'.runs ∘ h.runs, h'.periods_le ∘ h.periods_le, fun hs => ?_⟩
  have hst := h.crystal hs
  have htu := h'.crystal (h.periods_le hs)
  omega

theorem InStep.of_clock (hclock : t.timebase = s.timebase) (hreset : t.resetN = s.resetN) : InStep s t := by
  have hperiods : periods t = periods s := congrArg (fun x => x.subTick.toNat) hclock
  refine ⟨fun h => ?_, fun h => hperiods ▸ h, fun _ => ?_⟩
  · exact ⟨(congrArg (·.startState) hclock).trans h.1, hreset.trans h.2⟩
  · rw [hclock, hperiods]

theorem inStep_onePeriod (hk : periods s < 128) : InStep s (onePeriod s) := by
  refine ⟨id, fun _ => ?_, fun _ => ?_⟩
  · rw [periods_onePeriod s hk]
    omega
  · rw [periods_onePeriod s hk, show (onePeriod s).timebase.crystalCycles = s.timebase.crystalCycles +
      if (periods s + 1) % 4 = 0 then 1 else 0 from rfl]
    split <;> omega

/-- A FAST period that the tick still has is one period more, whatever its span clock does. -/
theorem fastPeriod_onePeriod (hr : Runs s) (hk : periods s < 128) :
    s.fastPeriod.timebase = (onePeriod s).timebase ∧ s.fastPeriod.resetN = s.resetN := by
  rw [fastPeriod_eq s hr hk]
  split
  · exact ⟨(onePeriod s).spanPeriod_frame.2.2.1, (onePeriod s).spanPeriod_frame.2.1⟩
  · exact ⟨rfl, rfl⟩

theorem inStep_fastPeriod (s : State) : InStep s s.fastPeriod := by
  by_cases h : Runs s ∧ periods s < 128
  · obtain ⟨hclock, hreset⟩ := fastPeriod_onePeriod h.1 h.2
    exact (inStep_onePeriod h.2).trans (.of_clock hclock hreset)
  · rw [fastPeriod_none s h]
    exact .refl s

theorem inStep_edge (s : State) : (e : CountEdge) → InStep s (s.edge e)
  | .halfCycle => .of_clock s.halfCycle_frame.2.2.1 s.halfCycle_frame.2.1
  | .fastPeriod => inStep_fastPeriod s

theorem inStep_edges (l : List CountEdge) : InStep s (s.edges l) := by
  induction l generalizing s with
  | nil => exact .refl s
  | cons e l ih => exact (inStep_edge s e).trans ih

theorem periods_fastPeriods (k : Nat) (hr : Runs s) (hk : periods s + k ≤ 128) :
    periods (s.edges (List.replicate k .fastPeriod)) = periods s + k := by
  induction k generalizing s with
  | zero => rfl
  | succ k ih =>
    have hclock := (fastPeriod_onePeriod hr (by omega)).1
    have hperiods : periods s.fastPeriod = periods s + 1 :=
      (congrArg (fun x => x.subTick.toNat) hclock).trans (periods_onePeriod s (by omega))
    rw [Converting.edges_fastPeriod_succ, ih ((inStep_fastPeriod s).runs hr) (by omega), hperiods]
    omega

theorem takeOutstanding_inStep (s : State) : InStep s s.takeOutstanding := by
  obtain ⟨hstart, -, hsub, hcrystal⟩ := s.takeOutstanding_clock
  have hperiods : periods s.takeOutstanding = periods s := congrArg BitVec.toNat hsub
  refine ⟨fun h => ⟨hstart.trans h.1, s.takeOutstanding_frame.2.1.trans h.2⟩, fun h => hperiods ▸ h, fun _ => ?_⟩
  rw [hcrystal, hperiods]

theorem finished_clock (l : List CountEdge) (hr : Runs s) (hk : periods s ≤ 128) :
    let w := s.takeOutstanding.edges l
    let v := w.edges (List.replicate (128 - periods w) .fastPeriod)
    periods v = 128 ∧ v.timebase.crystalCycles = s.timebase.crystalCycles + (32 - periods s / 4) := by
  intro w v
  have hw : InStep s w := (takeOutstanding_inStep s).trans (inStep_edges l)
  have hle := hw.periods_le hk
  have hperiods : periods v = 128 := (periods_fastPeriods _ (hw.runs hr) (by omega)).trans (by omega)
  have hv : InStep s v := hw.trans (inStep_edges _)
  have hcrystal := hv.crystal hk
  rw [hperiods] at hcrystal
  exact ⟨hperiods, by omega⟩

end Clock

section Advance

variable {s : State} {p : Port}

/-- The tick at which a port's tap is due (R147). -/
def tapped (p : Port) (n : Stamp) (t : State) : State :=
  let k := ((t.port p).control.toNat / 2 ^ 9) % 16
  if k ≠ 0 ∧ n.toNat % 2 ^ k = 0 then flagged t p fun f => { f with tap := true } else t

theorem tapSelect_eq (x : BitVec 13) : tapSelect x = x.toNat / 2 ^ 9 % 16 := by
  rw [tapSelect, BitVec.extractLsb'_toNat, Nat.shiftRight_eq_div_pow]

theorem tap_eq (s : State) (p : Port) : s.tap p = tapped p s.now s := by
  rw [State.tap, tapped, tapSelect_eq, raise_eq_flagged]
  simp only [tapFires, Bool.and_eq_true, decide_eq_true_eq]
  rfl

theorem idleTick_eq (b : BusController) (linesHigh : Bool) : b.idleTick linesHigh =
    if b.idleCheck = true then
      if b.linesHigh = true ∧ linesHigh = true then { b with busState := .free, idleCheck := false, linesHigh := false }
      else { b with linesHigh := linesHigh }
    else b := by
  simp only [BusController.idleTick, Bool.and_eq_true]

theorem port_bus (b : BusController) : ({ s with bus := b } : State).port p = s.port p := by cases p <;> rfl

/-- Neither a flag nor a tap looks at the bus. -/
theorem flagged_bus (f : EventFlags → EventFlags) (b : BusController) :
    flagged { s with bus := b } p f = { flagged s p f with bus := b } := by
  by_cases h : s.resetN = .high ∧ (s.port p).rstN = .high
  · rw [flagged, flagged, if_pos h, if_pos ((port_bus b).symm ▸ h)]
    cases p <;> rfl
  · rw [flagged, flagged, if_neg h, if_neg ((port_bus b).symm ▸ h)]

theorem tapped_bus (n : Stamp) (b : BusController) : tapped p n { s with bus := b } = { tapped p n s with bus := b } := by
  rw [tapped, tapped, port_bus, flagged_bus]
  dsimp only
  split
  · rfl
  · rfl

theorem advanceTick_eq (linesHigh : Bool) : s.advanceTick linesHigh =
    tapped .b (s.timebase.tick + 1) (tapped .a (s.timebase.tick + 1)
      { s with timebase := s.timebase.advance, bus := s.bus.idleTick linesHigh }) := by
  have hnow : ({ s with timebase := s.timebase.advance }.tap .a).now = s.timebase.tick + 1 :=
    congrArg Timebase.tick (State.tap_frame _ .a).2.2.1
  have hbus : (({ s with timebase := s.timebase.advance }.tap .a).tap .b).bus = s.bus :=
    (State.tap_frame _ .b).2.2.2.2.2.2.2.2.2.2.trans (State.tap_frame _ .a).2.2.2.2.2.2.2.2.2.2
  rw [State.advanceTick, hbus, tap_eq _ .b, hnow, tap_eq _ .a, ← tapped_bus, ← tapped_bus]
  rfl

theorem tickEvent_eq (x : TickInput) (hr : Runs s) :
    let w := s.takeOutstanding.edges x.edges
    s.tickEvent x = (w.edges (List.replicate (128 - periods w) .fastPeriod)).advanceTick x.linesHigh :=
  if_pos ((Runs_iff s).2 hr)

end Advance

/-- Settles O52. -/
theorem tickCountsDeliversAndTaps : Obligations.TickCountsDeliversAndTaps := by
  refine ⟨fun s input hr => ?_, fun s => ⟨fun _ => rfl, fun _ _ => rfl, fun _ => rfl, fun _ => rfl, rfl, rfl⟩⟩
  intro u w v n tapped'
  refine ⟨congrArg Host.Outcome.next ?_, fun h => ?_, ?_, fun hk => finished_clock input.edges hr hk⟩
  · rw [tickEvent_eq input hr, advanceTick_eq, idleTick_eq]
    rfl
  · exact congrArg (List.foldl State.takeExpiry s) h
  · calc v.timebase.tick = w.timebase.tick := (w.edges_clock _).2.1
      _ = s.takeOutstanding.timebase.tick := (State.edges_clock _ _).2.1
      _ = s.timebase.tick := s.takeOutstanding_clock.2.1

end Sys2Proof.Ticking

/-! Events whose conditions do not hold change nothing. -/

namespace Sys2Proof.Idle

open Sys2Proof.Machine Sys2Proof.Statement

variable {s : State}

section Expiries

variable {i : DeadlineItem}

theorem takeExpiry_of_not_delivered (h : i ∉ s.timebase.delivered) : s.takeExpiry i = s := by
  have hnot : ¬ s.expiryDue i = true := fun hdue => h ((expiryDue_iff s i).1 hdue)
  cases i with
  | claim c => exact if_neg hnot
  | watchDue p i => exact if_neg hnot
  | quietEnd p => exact if_neg hnot
  | readDue r => exact if_neg fun hdue => hnot hdue.1
  | holdLimit => exact if_neg fun hdue => hnot hdue.1
  | busWait => exact if_neg fun hdue => hnot hdue.1

end Expiries

section Engines

theorem takeable_local_none (h : ∀ e ∈ s.pendingList, 8 ≤ e.channel.val ∨ s.results[e.channel].reserved = true) :
    s.takeable true = none := by
  refine List.find?_eq_none.2 fun e he htake => ?_
  obtain ⟨hkind, hfree⟩ := (Bool.and_eq_true _ _).mp htake
  rcases h e he with hval | hreserved
  · have hlocal : e.channel.val < 8 := of_decide_eq_true (eq_of_beq hkind)
    omega
  · rw [State.result, hreserved] at hfree
    cases hfree

theorem takeable_remote_none (h : ∀ e ∈ s.pendingList, e.channel.val < 8 ∨ s.results[e.channel].reserved = true) :
    s.takeable false = none := by
  refine List.find?_eq_none.2 fun e he htake => ?_
  obtain ⟨hkind, hfree⟩ := (Bool.and_eq_true _ _).mp htake
  rcases h e he with hval | hreserved
  · exact absurd hval (of_decide_eq_false (eq_of_beq hkind))
  · rw [State.result, hreserved] at hfree
    cases hfree

theorem localTake_of_not (h : s.converter.state ≠ .idle ∨ ¬ NoWindow s ∨ 2 ≤ s.inFlightOf .localEngine
    ∨ ∀ e ∈ s.pendingList, 8 ≤ e.channel.val ∨ s.results[e.channel].reserved = true) : s.localTake = s := by
  rcases h with hstate | hquiet | hroom | hnone
  · exact if_neg fun hc => hstate hc.1
  · exact if_neg fun hc => hquiet ((quietActive_eq_false_iff s).1 hc.2.1)
  · exact if_neg fun hc => absurd hroom (Nat.not_le.2 hc.2.2)
  · rw [State.localTake, takeable_local_none hnone]
    exact ite_self s

theorem freeRow_none (h : ∀ r : RowNo, s.remote.rows[r].state ≠ .free) : s.freeRow = none :=
  find_finRange_none _ fun r => decide_eq_false (h r)

theorem chooseTrigger_of_not (xcl : Level) (h : s.bus.control ≠ .idle ∨ s.remote.readOrder ≠ []
    ∨ 4 ≤ s.inFlightOf .remoteEngine ∨ (∀ r : RowNo, s.remote.rows[r].state ≠ .free)
    ∨ (∀ e ∈ s.pendingList, e.channel.val < 8 ∨ s.results[e.channel].reserved = true)) : s.chooseTrigger xcl = s := by
  rcases h with hidle | hread | hroom | hrow | hnone
  · exact if_neg fun hc => hidle hc.1
  · exact if_neg fun hc => hread hc.2.1
  · exact if_neg fun hc => absurd hroom (Nat.not_le.2 hc.2.2)
  · rw [State.chooseTrigger, freeRow_none hrow]
    exact ite_self s
  · rw [State.chooseTrigger, takeable_remote_none hnone]
    cases s.freeRow <;> exact ite_self s

theorem chooseRead_of_not (xcl : Level) (h : s.bus.control ≠ .idle ∨ s.remote.readOrder = []) : s.chooseRead xcl = s := by
  rcases h with hidle | hread
  · exact if_neg hidle
  · rw [State.chooseRead, hread]
    exact ite_self s

theorem complete_of_no_outcome {ch : Channel} (h : ∀ r ∈ s.inFlight, r.channel = ch → r.outcome = none) :
    s.complete ch = s := by
  rw [State.complete]
  cases hfind : s.inFlight.find? fun r => decide (r.channel = ch) with
  | none => rfl
  | some r =>
    have hnone : r.outcome = none := h r (List.mem_of_find?_eq_some hfind) 
      (of_decide_eq_true (List.find?_some (p := fun x : ConversionRecord => decide (x.channel = ch)) hfind))
    dsimp only
    rw [hnone]

theorem divisionEnd_of_free (h : s.ratio.divider = none) : s.divisionEnd = s := by
  rw [State.divisionEnd, h]

end Engines

section Phases

theorem cycleFull_iff (x : Converter) : x.cycleFull = true ↔ x.cycleCounter = 0xFFFF ∧ x.wave = .high := by
  rw [Converter.cycleFull, Bool.and_eq_true, decide_eq_true_eq, decide_eq_true_eq]

theorem inRef_iff (x : ConverterState) : x.inRef = true ↔ ∃ cur, x = .ref cur := by
  cases x <;> simp [ConverterState.inRef]

theorem inSense_iff (x : ConverterState) : x.inSense = true ↔ ∃ cur, x = .sense cur := by
  cases x <;> simp [ConverterState.inSense]

theorem not_cycleFull (h : s.converter.cycleCounter ≠ 0xFFFF ∨ s.converter.wave = .low) :
    ¬ s.converter.cycleFull = true := by
  rw [cycleFull_iff]
  rcases h with hcount | hwave
  · exact fun hc => hcount hc.1
  · exact fun hc => Level.noConfusion (hwave.symm.trans hc.2)

theorem referencePhaseEnd_of_not (h : (∀ cur, s.converter.state ≠ .ref cur) ∨ s.converter.cycleCounter ≠ 0xFFFF
    ∨ s.converter.wave = .low) : s.referencePhaseEnd = s := by
  refine if_neg fun hc => ?_
  obtain ⟨hin, hfull⟩ := (Bool.and_eq_true _ _).mp hc
  obtain ⟨cur, hcur⟩ := (inRef_iff _).1 hin
  rcases h with hstate | hcount
  · exact hstate cur hcur
  · exact not_cycleFull hcount hfull

theorem cycleCounterOverflow_of_not (h : (∀ cur, s.converter.state ≠ .sense cur) ∨ s.converter.cycleCounter ≠ 0xFFFF
    ∨ s.converter.wave = .low) : s.cycleCounterOverflow = s := by
  refine if_neg fun hc => ?_
  obtain ⟨hin, hfull⟩ := (Bool.and_eq_true _ _).mp hc
  obtain ⟨cur, hcur⟩ := (inSense_iff _).1 hin
  rcases h with hstate | hcount
  · exact hstate cur hcur
  · exact not_cycleFull hcount hfull

theorem spanOverflow_of_not (h : ∀ cur, s.converter.state = .ref cur →
    ¬ SpanPeriodNext s cur.spanClock ∨ s.converter.spanCounter ≠ 0xFFFF) : s.spanOverflow = s := by
  refine if_neg fun hc => ?_
  simp only [Bool.and_eq_true, decide_eq_true_eq] at hc
  obtain ⟨⟨hin, hspan⟩, hnext⟩ := hc
  obtain ⟨cur, hcur⟩ := (inRef_iff _).1 hin
  rcases h cur hcur with hnot | hcount
  · exact hnot ((periodNext_iff s cur (.inl hcur)).1 hnext)
  · exact hcount hspan

theorem sensingPhaseEnd_of_not (h : ∀ cur, s.converter.state = .sense cur →
    ¬ SpanPeriodNext s cur.spanClock ∨ s.converter.spanCounter ≠ 1) : s.sensingPhaseEnd = s := by
  refine if_neg fun hc => ?_
  simp only [Bool.and_eq_true, decide_eq_true_eq] at hc
  obtain ⟨⟨hin, hspan⟩, hnext⟩ := hc
  obtain ⟨cur, hcur⟩ := (inSense_iff _).1 hin
  rcases h cur hcur with hnot | hcount
  · exact hnot ((periodNext_iff s cur (.inr hcur)).1 hnext)
  · exact hcount hspan

end Phases

section Bus

theorem stopCompletes_of_not (h : ∀ place result, s.bus.control = .stop place result →
    place = .clocked .low ∨ place = .clocked .rising) : s.stopCompletes = s := by
  rw [State.stopCompletes.eq_def]
  split
  · next r hc => exact absurd (h _ r hc) (by simp)
  · next r hc => exact absurd (h _ r hc) (by simp)
  · next r hc => exact absurd (h _ r hc) (by simp)
  · rfl

theorem backoffEnd_of_not (xcl : Level) (h : ∀ second, s.bus.control ≠ .backoff second) : s.backoffEnd xcl = s := by
  rw [State.backoffEnd.eq_def]
  split
  · next second hc => exact absurd hc (h second)
  · rfl

theorem lossOfArbitration_of_not {cause : LossCause} (h : ¬ Losable s cause) : s.lossOfArbitration cause = s :=
  if_neg fun hc => h ((canLose_iff_Losable s cause).1 hc)

theorem tickEvent_of_not (x : TickInput) (h : ¬ Runs s) : s.tickEvent x = s := if_neg fun hc => h ((Runs_iff s).1 hc)

end Bus

/-- Settles O3. -/
theorem eventsWithoutTheirConditionsDoNotOccur : Obligations.EventsWithoutTheirConditionsDoNotOccur := by
  intro s
  have hexpiry {i : DeadlineItem} (h : i ∉ s.timebase.delivered) : (.next (s.takeExpiry i) : StepOutcome) = .next s :=
    congrArg Host.Outcome.next (takeExpiry_of_not_delivered h)
  have hnext {t : State} (h : t = s) : (.next t : StepOutcome) = .next s := congrArg Host.Outcome.next h
  exact ⟨fun _ => hexpiry, fun _ _ => hexpiry, fun _ => hexpiry, fun _ => hexpiry, hexpiry, hexpiry,
    fun h => hnext (localTake_of_not h), fun _ h => hnext (complete_of_no_outcome h),
    fun xcl h => hnext (chooseRead_of_not xcl h), fun xcl h => hnext (chooseTrigger_of_not xcl h),
    fun h => hnext (referencePhaseEnd_of_not h), fun h => hnext (spanOverflow_of_not h),
    fun h => hnext (sensingPhaseEnd_of_not h), fun h => hnext (cycleCounterOverflow_of_not h),
    fun h => hnext (divisionEnd_of_free h), fun h => hnext (stopCompletes_of_not h),
    fun _ h => hnext (lossOfArbitration_of_not h), fun xcl h => hnext (backoffEnd_of_not xcl h),
    fun x h => hnext (tickEvent_of_not x h)⟩

end Sys2Proof.Idle
